-- ==== Sys2Proof/Word.lean ====
section
/-!
DEFINITION. The widths of BFE: the 32-bit word, the byte, the 64-bit block as two halves, the 39-bit BUS word and the
6-bit register address (00_scope.md R5, R7; 20_memory.md R44; 30_encoding.md R71).
-/

namespace Sys2Proof

/-- A 32-bit word: every register, subkey and S-box entry (00_scope.md R5, R7). `+` on it is the `+32` of R8 (carry out
of bit 31 discarded) and `^^^` its exclusive-or; bit 0 is the least significant. -/
abbrev Word := BitVec 32

/-- An 8-bit field: a key byte, or an unsigned S-box index 0..255 (42_encdec.md R131). -/
abbrev Byte := BitVec 8

/-- A block: the two 32-bit halves `(left, right)` (00_scope.md R5). -/
abbrev Block := Word × Word

/-- A word address of the host register space, 0..63 (20_memory.md R40, R44). -/
abbrev Addr := BitVec 6

/-- One host bus transaction as one number, bit 38 first (30_encoding.md R71). -/
abbrev BusWord := BitVec 39

end Sys2Proof
end

