-- ==== Sys2Proof/Syntax.lean ====
section
/-!
DEFINITION. The instructions: one constructor per row of spec/opcode_table.json (30_encoding.md R70, R74).
-/

namespace Sys2Proof

/-- What the host issues. `rd` and `wr` are the two BUS transactions; the other four are the engine commands, each issued
by the one BUS transaction that writes its CMD word to address 1 (30_encoding.md R70). No command carries an operand
(R72, R76). -/
inductive Instr where
  /-- `RD`: read the register at `addr`; `wdata` is carried and ignored (20_memory.md R41, 30_encoding.md R71). -/
  | rd (addr : Addr) (wdata : Word)
  /-- `WR`: write `wdata` to the register at `addr` (20_memory.md R42). -/
  | wr (addr : Addr) (wdata : Word)
  /-- `INIT`, CMD word `0x00000001`: the key schedule (40_init.md R90). -/
  | init
  /-- `ENC`, CMD word `0x00000002`: encrypt the data registers in place (42_encdec.md R120). -/
  | enc
  /-- `DEC`, CMD word `0x00000003`: decrypt the data registers in place (42_encdec.md R125). -/
  | dec
  /-- `ZEROIZE`, CMD word `0x00000004`: clear key, cipher state, data and flags (43_control.md R140). -/
  | zeroize
deriving DecidableEq, Repr

/-- The CMD words of the four commands (30_encoding.md R74). -/
def cmdInit : Word := 0x00000001#32
/-- See `cmdInit`. -/
def cmdEnc : Word := 0x00000002#32
/-- See `cmdInit`. -/
def cmdDec : Word := 0x00000003#32
/-- See `cmdInit`. -/
def cmdZeroize : Word := 0x00000004#32

/-- The bus address of the `CMD` register (10_state.md R25). -/
def cmdAddr : Addr := 1#6

/-- A CMD word is legal iff it is one of the four; every other of the `2^32` is illegal (30_encoding.md R75). -/
abbrev LegalCmdWord (v : Word) : Prop := v = cmdInit ∨ v = cmdEnc ∨ v = cmdDec ∨ v = cmdZeroize

end Sys2Proof
end

