-- ==== Sys2Proof/WellFormed.lean ====
section
/-!
DEFINITION. Which terms of `Instr` are instructions. The operand fields have exact widths, so one check is left: a write
of a legal CMD word to `CMD` is spelled as the command it issues (30_encoding.md R70; notes/assumptions/7.md).
-/

namespace Sys2Proof

/-- A `WR` is not a command in disguise: it does not write one of the four legal CMD words to `CMD`
(30_encoding.md R70, R80). Every other term is well-formed, the illegal CMD words of R75 among them. -/
def Instr.wf : Instr → Bool
  | .rd _ _ => true
  | .wr a v => !(decide (a = cmdAddr) && decide (LegalCmdWord v))
  | .init => true
  | .enc => true
  | .dec => true
  | .zeroize => true

end Sys2Proof
end

