-- ==== Sys2Proof/Decode.lean ====
section
/-!
DEFINITION. The decoders of the two formats of 30_encoding.md (R70 to R72, R74), the encoder, and the listing notation
of R71. Every 39-bit BUS word is legal (R77); of the CMD words exactly four are (R75).
-/

namespace Sys2Proof

/-- Why a number is no instruction: the rejections of the decoders, by name. -/
inductive Reject where
  /-- A CMD word other than the four legal ones (30_encoding.md R75). As the value of a bus write it is no reject: the
  write decodes as `WR` and its meaning latches `ILLEGAL_CMD`. -/
  | illegalCmdWord
  /-- A listed BUS word of more than 39 bits: the top digit pair of R71 is `{0, we, addr}`. -/
  | widerThanBusWord
  /-- A length that is neither format's (30_encoding.md R78). -/
  | noSuchFormat
deriving DecidableEq, Repr

/-- Fields of a BUS word (30_encoding.md R71). -/
def BusWord.we (w : BusWord) : Bool := w.getLsbD 38
/-- See `BusWord.we`. -/
def BusWord.addr (w : BusWord) : Addr := w.extractLsb' 32 6
/-- See `BusWord.we`. -/
def BusWord.wdata (w : BusWord) : Word := w.extractLsb' 0 32

/-- The decoder of format BUS: total, bit 38 alone tells `RD` from `WR` (30_encoding.md R74). -/
def decodeBus (w : BusWord) : Instr :=
  if BusWord.we w then .wr (BusWord.addr w) (BusWord.wdata w) else .rd (BusWord.addr w) (BusWord.wdata w)

/-- The decoder of format CMD: the whole 32-bit word is matched against the four patterns, and everything else is illegal
(30_encoding.md R74, R75). -/
def decodeCmd (v : Word) : Except Reject Instr :=
  if v = cmdInit then .ok .init
  else if v = cmdEnc then .ok .enc
  else if v = cmdDec then .ok .dec
  else if v = cmdZeroize then .ok .zeroize
  else .error .illegalCmdWord

/-- The instruction one bus transaction is: the `RD` or `WR` of its BUS word, or, where it writes a legal CMD word to
`CMD`, the command that write issues (30_encoding.md R70; notes/assumptions/7.md). -/
def decode (w : BusWord) : Instr :=
  match decodeBus w with
  | .wr a v =>
    if a = cmdAddr then
      match decodeCmd v with
      | .ok i => i
      | .error _ => .wr a v
    else .wr a v
  | i => i

/-- A BUS word from its listing, ten hexadecimal digits `{0, we, addr}` then `wdata` (30_encoding.md R71). -/
def decodeListing (n : Nat) : Except Reject Instr :=
  if n < 2 ^ 39 then .ok (decode (BitVec.ofNat 39 n)) else .error .widerThanBusWord

/-- The decoder of an instruction given by its length in bits and its bits as a number: a CMD word of 32 bits, or a BUS
word of 39 bits (40 when counted in whole bytes, the top bit 0) (30_encoding.md R78). -/
def decodeSized (nbits w : Nat) : Except Reject Instr :=
  if nbits = 32 then decodeCmd (BitVec.ofNat 32 w)
  else if nbits = 39 ∨ nbits = 40 then decodeListing w
  else .error .noSuchFormat

/-- The instruction the decoder reads from a word of spec/opcode_table.json, numbered as the table numbers its bits. -/
def decodeTableWord (nbits w : Nat) : Option Instr :=
  match decodeSized nbits w with
  | .ok i => some i
  | .error _ => none

/-! ## The encoder -/

/-- The BUS word `{we, addr, wdata}` (30_encoding.md R71). -/
def busWord (we : Bool) (a : Addr) (d : Word) : BusWord := (BitVec.ofBool we ++ a) ++ d

/-- The BUS word of an instruction: of a command, the write of its CMD word to `CMD` (30_encoding.md R71, R74, R80). -/
def encode : Instr → BusWord
  | .rd a d => busWord false a d
  | .wr a v => busWord true a v
  | .init => busWord true cmdAddr cmdInit
  | .enc => busWord true cmdAddr cmdEnc
  | .dec => busWord true cmdAddr cmdDec
  | .zeroize => busWord true cmdAddr cmdZeroize

/-- The CMD word of a command (30_encoding.md R74); a bus transaction has none. -/
def encodeCmd : Instr → Option Word
  | .rd _ _ => none
  | .wr _ _ => none
  | .init => some cmdInit
  | .enc => some cmdEnc
  | .dec => some cmdDec
  | .zeroize => some cmdZeroize

end Sys2Proof
end

