-- ==== Sys2Proof/Config.lean ====
section
/-!
DEFINITION. The constants the spec fixes for BFE, and the values it leaves open. An open value is an `opaque` constant
with no body: nothing can evaluate it, so whatever is proved holds for every value of it.
-/

namespace Sys2Proof.Config

/-- `ID_VALUE`, the ASCII bytes `B`, `F`, `S`, `H` (00_scope.md R6, 10_state.md R20). -/
def idValue : Word := 0x42465348#32

/-- `KEYMIN`, the least legal key length in bytes, inclusive (00_scope.md R5, 40_init.md R91). -/
def keyMin : Nat := 4

/-- `KEYMAX`, the greatest legal key length in bytes, inclusive (00_scope.md R5, 40_init.md R91). -/
def keyMax : Nat := 56

/-- FREE VALUE. `RESET_PS`, the P-array half: word `j` of `P` after reset number `n` (power-on is number 0)
(10_state.md R29, 70_reset_and_hazards.md R180, R181; notes/assumptions/3.md). -/
opaque resetP : Nat → Nat → Word

/-- FREE VALUE. `RESET_PS`, the S-box half: entry `i` of box `k` after reset number `n`
(10_state.md R29, 70_reset_and_hazards.md R180, R181; notes/assumptions/3.md). -/
opaque resetS : Nat → Nat → Nat → Word

/-- FREE VALUE. How many host moves (reads of `STATUS`) may come before the engine's completion step while the command of
epoch `n` is in flight: a finite number, possibly zero (20_memory.md R53, 93_implementation_defined.md U3;
notes/assumptions/4.md). -/
opaque busyReads : Nat → Nat

/-- FREE VALUE. `KeyByte(i)` for `i >= 56`, which 10_state.md R17 does not define and which no reachable state asks for
(notes/assumptions/6.md). -/
opaque keyByteBeyond : Nat → Byte

end Sys2Proof.Config
end

