-- ==== Sys2Proof/Machine/State.lean ====
section
/-!
DEFINITION. The state. `Bfe` has exactly the components of 10_state.md R10; `State` puts beside it the host agent of
20_memory.md R53 (what it has still to do and what it has read) and the model's own scheduling counters.
-/

namespace Sys2Proof.Machine

/-- The cipher state: the P-array and the four S-boxes (10_state.md R11, R12). -/
structure CipherState where
  /-- `P[0..17]` (R11). -/
  p : Vector Word 18
  /-- `S[0..3][0..255]` (R12). -/
  sbox : Vector (Vector Word 256) 4
deriving DecidableEq, Repr

/-- `RUN`: idle, or the command being performed (10_state.md R21). -/
inductive Run where
  | idle
  | init
  | enc
  | dec
  | zeroize
deriving DecidableEq, Repr

/-- The whole state of BFE and nothing else (10_state.md R10). `CMD` and `ID` are addresses, not state (R18, R20), and
`BUSY` is `run ≠ idle` (R19, R21). -/
structure Bfe where
  /-- `P`, `S` (R11, R12). -/
  cipher : CipherState
  /-- `KEY[0..13]` (R13). -/
  key : Vector Word 14
  /-- `KEYLEN.LEN` (R14). -/
  keyLen : BitVec 8
  /-- `DATA_L` (R15). -/
  dataL : Word
  /-- `DATA_R` (R15). -/
  dataR : Word
  /-- `STATUS.KEY_VALID` (R19, R24). -/
  keyValid : Bool
  /-- `STATUS.ERR` (R19, R24). -/
  err : Bool
  /-- `STATUS.ERRCODE` (R19, R24). -/
  errCode : BitVec 4
  /-- `RUN` (R21). -/
  run : Run
deriving DecidableEq, Repr

/-- One thing the host does next (70_reset_and_hazards.md R186). -/
inductive HostAct where
  /-- One bus transaction, by its BUS word (20_memory.md R41, R42; 30_encoding.md R71). -/
  | bus (w : BusWord)
  /-- The pseudo-instruction `WAIT`: repeat `RD STATUS` until the value read has bit 0 = 0 (30_encoding.md R80). -/
  | wait
  /-- `rst = 1` for one clock edge (70_reset_and_hazards.md R180). -/
  | rst
deriving DecidableEq, Repr

/-- BFE, its one host, and the model's own scheduling counters. -/
structure State where
  /-- BFE itself (10_state.md R10). -/
  bfe : Bfe
  /-- What the host has still to do, in its program order (20_memory.md R53; notes/assumptions/1.md). -/
  queue : List HostAct
  /-- The values its reads returned, oldest first: the observable result of a run (70_reset_and_hazards.md R185). -/
  reads : List Word
  /-- The model's own: host moves made since the command in flight was issued (notes/assumptions/4.md). -/
  polls : Nat
  /-- The model's own: engine completions and resets so far, the index of the free values (notes/assumptions/4.md). -/
  epoch : Nat
deriving DecidableEq, Repr

/-- The machine never faults: an error of BFE is an ordinary next state with `ERR = 1`, and there is no state from which
it cannot proceed (60_exceptions.md R152, R161). So this type has no constructor. -/
inductive Fault
deriving DecidableEq, Repr

/-- Why a step has no meaning in the model. -/
inductive Refusal where
  /-- Raised by an arm of `exec` whose instruction has no meaning yet; no arm is one, so nothing raises it. Safe: it would
  stop where the hardware goes on. -/
  | notModelled (mnemonic : String)
deriving DecidableEq, Repr

/-- `P` and `S` after reset number `n`: unspecified, any 1042 words (10_state.md R29). -/
def CipherState.afterReset (n : Nat) : CipherState :=
  { p := Vector.ofFn fun j => Config.resetP n j.val
    sbox := Vector.ofFn fun k => Vector.ofFn fun i => Config.resetS n k.val i.val }

/-- BFE immediately after a reset that leaves `c` in `P` and `S` (10_state.md R29, 70_reset_and_hazards.md R180). -/
def Bfe.afterReset (c : CipherState) : Bfe :=
  { cipher := c
    key := Vector.replicate 14 0#32
    keyLen := 0#8
    dataL := 0#32
    dataR := 0#32
    keyValid := false
    err := false
    errCode := 0#4
    run := .idle }

/-- The machine right after the power-on reset, with nothing for the host to do: the reset state of 10_state.md R29. -/
def State.reset : State :=
  { bfe := Bfe.afterReset (CipherState.afterReset 0)
    queue := []
    reads := []
    polls := 0
    epoch := 0 }

end Sys2Proof.Machine
end

