-- ==== Sys2Proof/Machine/Ops.lean ====
section
/-!
DEFINITION. The named operations over BFE's storage and over the host's side, latching an error (the one "exception
entry" of BFE) and the way out of the error state, and the hold of the bus.
-/

namespace Sys2Proof.Machine

/-! ## P-array and S-boxes (20_memory.md R40, R45: one 32-bit entry at a time) -/

/-- `P[j]` (00_scope.md R9). -/
def CipherState.subkey (c : CipherState) (j : Fin 18) : Word := c.p[j.val]

/-- `P[j] <- v` (00_scope.md R9). -/
def CipherState.setP (c : CipherState) (j : Fin 18) (v : Word) : CipherState :=
  { c with p := c.p.set j.val v }

/-- `S[k][i]` (00_scope.md R9). -/
def CipherState.entry (c : CipherState) (k : Fin 4) (i : Fin 256) : Word := (c.sbox[k.val])[i.val]

/-- `S[k][i] <- v` (00_scope.md R9). -/
def CipherState.setS (c : CipherState) (k : Fin 4) (i : Fin 256) (v : Word) : CipherState :=
  { c with sbox := c.sbox.set k.val ((c.sbox[k.val]).set i.val v) }

/-- All 1042 words zero (43_control.md R141). -/
def CipherState.zero : CipherState :=
  { p := Vector.replicate 18 0#32, sbox := Vector.replicate 4 (Vector.replicate 256 0#32) }

/-! ## Register updates -/

/-- `RUN <- r` (10_state.md R21). -/
def Bfe.withRun (b : Bfe) (r : Run) : Bfe := { b with run := r }
/-- `STATUS.KEY_VALID <- v` (10_state.md R24). -/
def Bfe.withKeyValid (b : Bfe) (v : Bool) : Bfe := { b with keyValid := v }
/-- `(P, S) <- c` (40_init.md R97). -/
def Bfe.withCipher (b : Bfe) (c : CipherState) : Bfe := { b with cipher := c }
/-- `DATA_L <- v` (10_state.md R15). -/
def Bfe.withDataL (b : Bfe) (v : Word) : Bfe := { b with dataL := v }
/-- `DATA_R <- v` (10_state.md R15). -/
def Bfe.withDataR (b : Bfe) (v : Word) : Bfe := { b with dataR := v }
/-- `(DATA_L, DATA_R) <- x`, both written together (42_encdec.md R129, R130). -/
def Bfe.withData (b : Bfe) (x : Block) : Bfe := { b with dataL := x.1, dataR := x.2 }
/-- `KEYLEN.LEN <- v`, unconditionally; the lock of 10_state.md R16 is in `busWrite`. -/
def Bfe.withKeyLen (b : Bfe) (v : BitVec 8) : Bfe := { b with keyLen := v }
/-- `KEY[i] <- v`, unconditionally; the lock of 10_state.md R16 is in `busWrite`. -/
def Bfe.withKey (b : Bfe) (i : Fin 14) (v : Word) : Bfe := { b with key := b.key.set i.val v }

/-! ## Errors (60_exceptions.md) -/

/-- The error causes (60_exceptions.md R151). -/
inductive ErrCause where
  /-- `KEYLEN`: INIT issued with a length outside 4..56. -/
  | keyLen
  /-- `NOKEY`: ENC or DEC issued with `KEY_VALID = 0`. -/
  | noKey
  /-- `ILLEGAL_CMD`: the word written to `CMD` is not a legal CMD word. -/
  | illegalCmd
deriving DecidableEq, Repr

/-- The code `ERRCODE` records for a cause (60_exceptions.md R151). -/
def ErrCause.code : ErrCause → BitVec 4
  | .keyLen => 1#4
  | .noKey => 2#4
  | .illegalCmd => 3#4

/-- `raise Err(c)`, BFE's whole exception entry: `ERR` and `ERRCODE` are latched and nothing else changes; there is no
saved state, no mode and no handler (60_exceptions.md R152, R154). -/
def Bfe.raise (b : Bfe) (c : ErrCause) : Bfe := { b with err := true, errCode := c.code }

/-- The way back from the error state, the completion of ZEROIZE: every register, flag, subkey and S-box entry cleared, in
one atomic change (43_control.md R141, 60_exceptions.md R155). -/
def Bfe.wipe (_ : Bfe) : Bfe :=
  { cipher := CipherState.zero
    key := Vector.replicate 14 0#32
    keyLen := 0#8
    dataL := 0#32
    dataR := 0#32
    keyValid := false
    err := false
    errCode := 0#4
    run := .idle }

/-! ## The host's side -/

/-- Replace BFE's state, the host's untouched. -/
def State.withBfe (s : State) (b : Bfe) : State := { s with bfe := b }

/-- A read returns `v` to the host (20_memory.md R41, 70_reset_and_hazards.md R185). -/
def State.returnRead (s : State) (v : Word) : State := { s with reads := s.reads ++ [v] }

/-- Count one host move: made while a command is in flight it uses up one of the moves the schedule allows before the
engine's step (notes/assumptions/4.md). -/
def State.countMove (s : State) : State :=
  { s with polls := if s.bfe.run = .idle then 0 else s.polls + 1 }

/-- The host goes on to its next act. -/
def State.take (s : State) : State := { s.countMove with queue := s.queue.tail }

/-- The hold of 20_memory.md R43, for every transaction but a read of `STATUS`: with the engine idle the transaction has
its effect `f`; otherwise `ready` is 0 and it has none. -/
def whenIdle (f : Bfe → Bfe) (s : State) : Host.Outcome State Fault Refusal :=
  if s.bfe.run = .idle then .next (s.withBfe (f s.bfe)) else .next s

end Sys2Proof.Machine
end

