-- ==== Sys2Proof/Machine/Operands.lean ====
section
/-!
DEFINITION. Operand forms: the register map, and the byte views of the key, of a word and of a block.
-/

namespace Sys2Proof.Machine

/-- What a bus address names (10_state.md R25). -/
inductive Reg where
  | id
  | cmd
  | status
  | keyLen
  | dataL
  | dataR
  | key (i : Fin 14)
  | reserved
deriving DecidableEq, Repr

/-- The register map: `ID` 0, `CMD` 1, `STATUS` 2, `KEYLEN` 3, `DATA_L` 4, `DATA_R` 5, `KEY[i]` at `16 + i`, the rest
reserved (10_state.md R25, 20_memory.md R47). -/
def regAt (a : Addr) : Reg :=
  match a.toNat with
  | 0 => .id
  | 1 => .cmd
  | 2 => .status
  | 3 => .keyLen
  | 4 => .dataL
  | 5 => .dataR
  | n => if h : 16 ≤ n ∧ n < 30 then .key ⟨n - 16, by omega⟩ else .reserved

/-- Byte `m` (0..3) of a word, byte 0 the most significant: the order of the key (10_state.md R17), of a block (R30) and
of the round function's `b0..b3` (42_encdec.md R121). -/
def byteOf (x : Word) (m : Nat) : Byte := x.extractLsb' (24 - 8 * m) 8

/-- `{a, b, c, d}`, `a` in bits `[31:24]` (00_scope.md R7). -/
def wordOf (a b c d : Byte) : Word := ((a ++ b) ++ c) ++ d

/-- `KeyByte(i)`, byte `i mod 4` of `KEY[i div 4]`, for `i < 56` (10_state.md R17). Beyond 55 the spec defines no key
byte, and the value is left free (notes/assumptions/6.md). -/
def keyByte (key : Vector Word 14) (i : Nat) : Byte :=
  if h : i < 56 then byteOf (key[i / 4]) (i % 4) else Config.keyByteBeyond i

/-- `KW(j)`: the four key bytes at positions `4j .. 4j+3`, each position taken modulo the key length `n`, first byte most
significant (40_init.md R93). -/
def keyWord (n : Nat) (key : Vector Word 14) (j : Nat) : Word :=
  wordOf (keyByte key ((4 * j) % n)) (keyByte key ((4 * j + 1) % n)) (keyByte key ((4 * j + 2) % n))
    (keyByte key ((4 * j + 3) % n))

/-- An 8-bit field as an unsigned S-box index (42_encdec.md R131). -/
def sboxIndex (x : Byte) : Fin 256 := ⟨x.toNat, x.isLt⟩

/-- The two words of a block given as bytes `b[0..7]` (10_state.md R30). -/
def blockOfBytes (b : Vector Byte 8) : Block := (wordOf b[0] b[1] b[2] b[3], wordOf b[4] b[5] b[6] b[7])

/-- The bytes `b[0..7]` of a block (10_state.md R30). -/
def bytesOfBlock (x : Block) : Vector Byte 8 :=
  Vector.ofFn fun i => if i.val < 4 then byteOf x.1 i.val else byteOf x.2 (i.val - 4)

end Sys2Proof.Machine
end

