-- ==== Sys2Proof/Machine/Flags.lean ====
section
/-!
DEFINITION. BFE's flags. It has no condition codes; no arithmetic sets a flag (10_state.md R24).
-/

namespace Sys2Proof.Machine

/-- `STATUS.BUSY`, 1 iff `RUN != IDLE` (10_state.md R19, R21). -/
def Bfe.busy (b : Bfe) : Bool := !decide (b.run = .idle)

/-- `STATUS`, assembled on every read: `zext_32({ERRCODE[3:0], 0b00000, ERR, KEY_VALID, BUSY})` (10_state.md R19). -/
def Bfe.status (b : Bfe) : Word :=
  ((((b.errCode ++ 0#5) ++ BitVec.ofBool b.err) ++ BitVec.ofBool b.keyValid) ++ BitVec.ofBool b.busy).setWidth 32

/-- The key length INIT accepts, both bounds included (40_init.md R91). -/
abbrev LegalKeyLen (n : BitVec 8) : Prop := Config.keyMin ≤ n.toNat ∧ n.toNat ≤ Config.keyMax

/-- The key lock: `KEY` and `KEYLEN` take a write only while `KEY_VALID = 0` (10_state.md R16). -/
def Bfe.ifUnlocked (b : Bfe) (f : Bfe → Bfe) : Bfe := if b.keyValid then b else f b

/-- The error state turns away every command but ZEROIZE, with no effect at all (30_encoding.md R73 step 1,
60_exceptions.md R154). -/
def Bfe.unlessError (b : Bfe) (f : Bfe → Bfe) : Bfe := if b.err then b else f b

/-- ENC and DEC run only under a completed key schedule; otherwise they latch `NOKEY` (42_encdec.md R128). -/
def Bfe.needKey (b : Bfe) (f : Bfe → Bfe) : Bfe := if b.keyValid then f b else b.raise .noKey

end Sys2Proof.Machine
end

