-- ==== Sys2Proof/Machine/Cipher.lean ====
section
/-!
DEFINITION. The 16-round Feistel core: the round function, one round, block encryption and block decryption
(42_encdec.md).
-/

namespace Sys2Proof.Machine

/-- `F(x)`: `((S[0][b0] + S[1][b1]) ^ S[2][b2]) + S[3][b3]`, both sums modulo `2^32`, `b0` the most significant byte
(42_encdec.md R121; the grouping is 90_conflicts.md C2). -/
def roundF (c : CipherState) (x : Word) : Word :=
  ((c.entry 0 (sboxIndex (byteOf x 0)) + c.entry 1 (sboxIndex (byteOf x 1))) ^^^ c.entry 2 (sboxIndex (byteOf x 2))) +
    c.entry 3 (sboxIndex (byteOf x 3))

/-- One round with subkey `k`, the swap included: `(l, r)` becomes `(r ^ F(l ^ k), l ^ k)` (42_encdec.md R122). -/
def feistelRound (c : CipherState) (x : Block) (k : Word) : Block := (x.2 ^^^ roundF c (x.1 ^^^ k), x.1 ^^^ k)

/-- The rounds, one subkey after another. -/
def feistelRounds (c : CipherState) (ks : List Word) (x : Block) : Block := ks.foldl (feistelRound c) x

/-- The subkeys of the 16 encryption rounds: `P[0], P[1], .., P[15]` (42_encdec.md R123; 90_conflicts.md C1). -/
def encSubkeys (c : CipherState) : List Word := (List.finRange 16).map fun i => c.subkey ⟨i.val, by omega⟩

/-- The subkeys of the 16 decryption rounds: `P[17], P[16], .., P[2]` (42_encdec.md R126). -/
def decSubkeys (c : CipherState) : List Word := (List.finRange 16).map fun i => c.subkey ⟨17 - i.val, by omega⟩

/-- `EncBlock(l, r)`: 16 rounds, the last swap undone, then `r ^ P[16]` and `l ^ P[17]` (42_encdec.md R123). -/
def encBlock (c : CipherState) (x : Block) : Block :=
  let y := feistelRounds c (encSubkeys c) x
  (y.2 ^^^ c.subkey 17, y.1 ^^^ c.subkey 16)

/-- `DecBlock(l, r)`: the same structure with the subkeys reversed, the output step `r ^ P[1]` and `l ^ P[0]`
(42_encdec.md R126; 90_conflicts.md C5). -/
def decBlock (c : CipherState) (x : Block) : Block :=
  let y := feistelRounds c (decSubkeys c) x
  (y.2 ^^^ c.subkey 0, y.1 ^^^ c.subkey 1)

end Sys2Proof.Machine
end

