-- ==== Sys2Proof/Machine/EncDec.lean ====
section
/-!
DEFINITION. `ENC` and `DEC`: admission, completion, meaning (42_encdec.md R120, R125, R128 to R130).
-/

namespace Sys2Proof.Machine

/-- Admission of ENC: without a completed schedule `NOKEY`, otherwise `RUN <- ENC` (42_encdec.md R128). -/
def admitEnc (b : Bfe) : Bfe := b.needKey fun b => b.withRun .enc

/-- Admission of DEC: without a completed schedule `NOKEY`, otherwise `RUN <- DEC` (42_encdec.md R128). -/
def admitDec (b : Bfe) : Bfe := b.needKey fun b => b.withRun .dec

/-- Completion of ENC: both data registers from the old pair, `RUN <- IDLE` (42_encdec.md R129). -/
def completeEnc (b : Bfe) : Bfe := (b.withData (encBlock b.cipher (b.dataL, b.dataR))).withRun .idle

/-- Completion of DEC (42_encdec.md R130). -/
def completeDec (b : Bfe) : Bfe := (b.withData (decBlock b.cipher (b.dataL, b.dataR))).withRun .idle

/-- `ENC` as the host issues it (42_encdec.md R120); the engine performs it in `completeEnc`. -/
def execEnc (s : State) : Host.Outcome State Fault Refusal := whenIdle (fun b => b.unlessError admitEnc) s

/-- `DEC` as the host issues it (42_encdec.md R125); the engine performs it in `completeDec`. -/
def execDec (s : State) : Host.Outcome State Fault Refusal := whenIdle (fun b => b.unlessError admitDec) s

end Sys2Proof.Machine
end

