-- ==== Sys2Proof/Machine/Schedule.lean ====
section
/-!
DEFINITION. The key schedule `KeySchedule()`: load the constants, mix the key into `P`, replace all 1042 words by 521
chained encryptions (40_init.md R92 to R95).
-/

namespace Sys2Proof.Machine

/-- Step 2, key XOR: `P[j] <- P[j] ^ KW(j)`; the S-boxes are not touched (40_init.md R93). -/
def mixKey (n : Nat) (key : Vector Word 14) (c : CipherState) : CipherState :=
  { c with p := Vector.ofFn fun j => c.subkey j ^^^ keyWord n key j.val }

/-- One encryption of step 3 over `P`: the running block is encrypted under the current state and its halves replace
`P[2t]` (left) and `P[2t+1]` (right) (40_init.md R94). -/
def replaceP (w : CipherState × Block) (t : Fin 9) : CipherState × Block :=
  let x := encBlock w.1 w.2
  ((w.1.setP ⟨2 * t.val, by omega⟩ x.1).setP ⟨2 * t.val + 1, by omega⟩ x.2, x)

/-- One encryption of step 3 over box `k`: its halves replace `S[k][2t]` and `S[k][2t+1]` (40_init.md R94). -/
def replaceS (k : Fin 4) (w : CipherState × Block) (t : Fin 128) : CipherState × Block :=
  let x := encBlock w.1 w.2
  ((w.1.setS k ⟨2 * t.val, by omega⟩ x.1).setS k ⟨2 * t.val + 1, by omega⟩ x.2, x)

/-- The 128 encryptions that replace box `k` (40_init.md R94). -/
def replaceBox (w : CipherState × Block) (k : Fin 4) : CipherState × Block :=
  (List.finRange 128).foldl (replaceS k) w

/-- Step 3, replacement: from the all-zero block, `P` in 9 encryptions, then `S[0]`, `S[1]`, `S[2]`, `S[3]` in 128 each
(40_init.md R94). -/
def replaceAll (c : CipherState) : CipherState × Block :=
  (List.finRange 4).foldl replaceBox ((List.finRange 9).foldl replaceP (c, (0#32, 0#32)))

/-- `KeySchedule()` for key length `n` and key buffer `key`: steps 1, 2, 3 in that order (40_init.md R95). Irreducible, so
that no proof unfolds its 521 encryptions by accident. -/
@[irreducible] def keySchedule (n : BitVec 8) (key : Vector Word 14) : CipherState :=
  (replaceAll (mixKey n.toNat key CipherState.constants)).1

end Sys2Proof.Machine
end

