-- ==== Sys2Proof/Machine/Init.lean ====
section
/-!
DEFINITION. `INIT`: its admission and issue, its completion, its meaning (40_init.md R90, R91, R96, R97).
-/

namespace Sys2Proof.Machine

/-- Admission and issue: outside 4..56 the length raises `KEYLEN` and nothing else happens; otherwise `KEY_VALID <- 0`
and `RUN <- INIT` in the same step, whatever `KEY_VALID` was (40_init.md R91, R96). -/
def admitInit (b : Bfe) : Bfe :=
  if LegalKeyLen b.keyLen then (b.withKeyValid false).withRun .init else b.raise .keyLen

/-- Completion: `(P, S) <- KeySchedule()`, `KEY_VALID <- 1`, `RUN <- IDLE` (40_init.md R97). -/
def completeInit (b : Bfe) : Bfe :=
  ((b.withCipher (keySchedule b.keyLen b.key)).withKeyValid true).withRun .idle

/-- `INIT` as the host issues it (40_init.md R90); the engine performs it in `completeInit`. -/
def execInit (s : State) : Host.Outcome State Fault Refusal := whenIdle (fun b => b.unlessError admitInit) s

end Sys2Proof.Machine
end

