-- ==== Sys2Proof/Machine/Zeroize.lean ====
section
/-!
DEFINITION. `ZEROIZE`: always accepted when idle, the only command accepted in the error state (43_control.md R140, R141).
-/

namespace Sys2Proof.Machine

/-- Issue: `RUN <- ZEROIZE`, whatever `KEY_VALID` and `ERR` are (43_control.md R140). -/
def admitZeroize (b : Bfe) : Bfe := b.withRun .zeroize

/-- Completion: everything cleared (43_control.md R141). -/
def completeZeroize (b : Bfe) : Bfe := b.wipe

/-- `ZEROIZE` as the host issues it (43_control.md R140); the engine performs it in `completeZeroize`. -/
def execZeroize (s : State) : Host.Outcome State Fault Refusal := whenIdle admitZeroize s

end Sys2Proof.Machine
end

