-- ==== Sys2Proof/Machine/Bus.lean ====
section
/-!
DEFINITION. The two bus transactions and the dispatch of a word written to `CMD` (20_memory.md R41 to R43,
30_encoding.md R73).
-/

namespace Sys2Proof.Machine

/-- The opcode field of a CMD word (30_encoding.md R72). -/
def cmdOpcode (v : Word) : Byte := v.extractLsb' 0 8

/-- The reserved field of a CMD word (30_encoding.md R72). -/
def cmdRsvd (v : Word) : BitVec 24 := v.extractLsb' 8 24

/-- A CMD word is illegal iff its reserved field is not zero or its opcode is not one of the four (30_encoding.md R75). -/
abbrev IllegalCmdWord (v : Word) : Prop :=
  cmdRsvd v ≠ 0#24 ∨ ¬(cmdOpcode v = 1#8 ∨ cmdOpcode v = 2#8 ∨ cmdOpcode v = 3#8 ∨ cmdOpcode v = 4#8)

/-- `Dispatch(v)`: what a write of `v` to `CMD` does when the engine is idle; the first check that applies decides
(30_encoding.md R73, 60_exceptions.md R153). -/
def dispatch (v : Word) (b : Bfe) : Bfe :=
  if b.err then
    if v = cmdZeroize then admitZeroize b else b
  else if IllegalCmdWord v then b.raise .illegalCmd
  else if cmdOpcode v = 1#8 then admitInit b
  else if cmdOpcode v = 2#8 then admitEnc b
  else if cmdOpcode v = 3#8 then admitDec b
  else admitZeroize b

/-- The value a read of address `a` returns: write-only and reserved addresses read zero (20_memory.md R41). -/
def busRead (a : Addr) (b : Bfe) : Word :=
  match regAt a with
  | .id => Config.idValue
  | .cmd => 0#32
  | .status => b.status
  | .keyLen => b.keyLen.setWidth 32
  | .dataL => b.dataL
  | .dataR => b.dataR
  | .key _ => 0#32
  | .reserved => 0#32

/-- The effect of a write of `v` to address `a` when the engine is idle: read-only and reserved addresses ignore it, no
address raises an error (20_memory.md R42). -/
def busWrite (a : Addr) (v : Word) (b : Bfe) : Bfe :=
  match regAt a with
  | .id => b
  | .cmd => dispatch v b
  | .status => b
  | .keyLen => b.ifUnlocked fun b => b.withKeyLen (v.extractLsb' 0 8)
  | .dataL => b.withDataL v
  | .dataR => b.withDataR v
  | .key i => b.ifUnlocked fun b => b.withKey i v
  | .reserved => b

/-- `RD`: with the engine idle, or of `STATUS` in any state, the value is returned and no state of BFE changes; any other
read is held while a command runs (20_memory.md R41, R43). The `wdata` field is ignored (30_encoding.md R71). -/
def execRd (a : Addr) (_wdata : Word) (s : State) : Host.Outcome State Fault Refusal :=
  if s.bfe.run = .idle ∨ regAt a = .status then .next (s.returnRead (busRead a s.bfe)) else .next s

/-- `WR`: with the engine idle the write has its effect; otherwise it is held (20_memory.md R42, R43). -/
def execWr (a : Addr) (v : Word) (s : State) : Host.Outcome State Fault Refusal := whenIdle (busWrite a v) s

end Sys2Proof.Machine
end

