-- ==== Sys2Proof/Machine/Engine.lean ====
section
/-!
DEFINITION. The engine's completion step, the reset pin, and which agent moves next (20_memory.md R43, R50, R53;
70_reset_and_hazards.md R180, R181).
-/

namespace Sys2Proof.Machine

/-- The effect of the command in flight, one atomic change; idle, the engine has no step (20_memory.md R50). -/
def complete (b : Bfe) : Bfe :=
  match b.run with
  | .idle => b
  | .init => completeInit b
  | .enc => completeEnc b
  | .dec => completeDec b
  | .zeroize => completeZeroize b

/-- The engine's completion step (20_memory.md R50, R53). -/
def engineStep (s : State) : State :=
  { s with bfe := complete s.bfe, polls := 0, epoch := s.epoch + 1 }

/-- One clock edge with `rst = 1`: the reset state, any command in flight abandoned, `P` and `S` unspecified; the host
goes on to its next act (70_reset_and_hazards.md R180, R181; notes/assumptions/3.md, notes/assumptions/5.md). -/
def resetStep (s : State) : State :=
  { s with
    bfe := Bfe.afterReset (CipherState.afterReset (s.epoch + 1))
    queue := s.queue.tail
    polls := 0
    epoch := s.epoch + 1 }

/-- Is this BUS word a read of `STATUS`, the one transaction that is never held (20_memory.md R43)? -/
def isStatusRead (w : BusWord) : Bool :=
  match decode w with
  | .rd a _ => decide (regAt a = .status)
  | .wr _ _ => false
  | .init => false
  | .enc => false
  | .dec => false
  | .zeroize => false

/-- The port `ready` while the host asks for transaction `w` (`sel = 1`): 0 means that it is held (20_memory.md R43, R44). -/
def ready (b : Bfe) (w : BusWord) : Bool := decide (b.run = .idle) || isStatusRead w

/-- The port `rdata` while the host asks for transaction `w`: valid for a read that is not held (20_memory.md R44). -/
def rdata (b : Bfe) (w : BusWord) : Option Word :=
  if ready b w && !BusWord.we w then some (busRead (BusWord.addr w) b) else none

/-- Would the host's act go through while a command runs? Only a read of `STATUS`, which is all `WAIT` does, and the reset
pin (20_memory.md R43, 70_reset_and_hazards.md R181). -/
def HostAct.neverHeld : HostAct → Bool
  | .bus w => isStatusRead w
  | .wait => true
  | .rst => true

/-- Who moves next. -/
inductive Agent where
  /-- The host performs its next act. -/
  | host (a : HostAct)
  /-- The engine completes the command in flight. -/
  | engine
  /-- Neither agent has a step: the run is over (70_reset_and_hazards.md R185). -/
  | nobody
deriving DecidableEq, Repr

/-- With the engine idle only the host has a step. While a command runs the engine has one, and the host has one too if
its next act is not held; which goes first the spec leaves open, and the free value `Config.busyReads` decides
(20_memory.md R43, R53; notes/assumptions/4.md). -/
def nextAgent (s : State) : Agent :=
  match s.queue with
  | [] => if s.bfe.run = .idle then .nobody else .engine
  | a :: _ =>
    if s.bfe.run = .idle then .host a
    else if a.neverHeld ∧ s.polls < Config.busyReads s.epoch then .host a
    else .engine

/-- The state in which `WAIT` makes its read of `STATUS`: with the engine idle this read is its last, otherwise `WAIT`
stays at the head of the queue (30_encoding.md R80). -/
def State.takeWait (s : State) : State := if s.bfe.run = .idle then s.take else s.countMove

end Sys2Proof.Machine
end

