-- ==== Sys2Proof/Machine/Listing.lean ====
section
/-!
DEFINITION. The listing notation: the pseudo-instructions and their expansions (30_encoding.md R79, R80). `INIT`, `ENC`,
`DEC` and `ZEROIZE` are constructors of `Instr` (their BUS words are `encode`'s), `WAIT` is `HostAct.wait`.
-/

namespace Sys2Proof.Machine

/-- Transactions as the host issues them. -/
def listing (is : List Instr) : List HostAct := is.map fun i => .bus (encode i)

/-- `KEYi` as the bus sees it, word address `16 + i`, for `i` of 0..13 (10_state.md R25). For a greater `i` there is no
`KEYi`, and that the address is `(16 + i) mod 64` is a DESIGN CHOICE (notes/assumptions/19.md). -/
def keyAddr (i : Nat) : Addr := BitVec.ofNat 6 (16 + i)

/-- Key byte `i` of a key given as bytes, a byte past its end taken as `00` (30_encoding.md R80). -/
def keyByteOrZero (k : List Byte) (i : Nat) : Byte := k.getD i 0#8

/-- `LDKEY n, k0 .. k(n-1)`: `WR KEYLEN, n`, then `ceil(n/4)` key words, bytes past the end `00` (30_encoding.md R80). The
spec gives this a meaning for at most 56 bytes, the registers `KEY0 .. KEY13`; what a longer list expands to is a DESIGN
CHOICE (notes/assumptions/19.md). -/
def ldKey (k : List Byte) : List Instr :=
  .wr 3#6 (BitVec.ofNat 32 k.length) ::
    (List.range ((k.length + 3) / 4)).map fun i =>
      .wr (keyAddr i) (wordOf (keyByteOrZero k (4 * i)) (keyByteOrZero k (4 * i + 1)) (keyByteOrZero k (4 * i + 2))
        (keyByteOrZero k (4 * i + 3)))

/-- `LDBLK h`: `WR DATA_L` with the first eight digits, `WR DATA_R` with the last eight (30_encoding.md R80). -/
def ldBlk (h : BitVec 64) : List Instr := [.wr 4#6 (h.extractLsb' 32 32), .wr 5#6 (h.extractLsb' 0 32)]

/-- `RDBLK`: `RD DATA_L`, `RD DATA_R` (30_encoding.md R80). -/
def rdBlk : List Instr := [.rd 4#6 0#32, .rd 5#6 0#32]

end Sys2Proof.Machine
end

