-- ==== Sys2Proof/Machine/Dispatch.lean ====
section
/-! DEFINITION. The meaning of every instruction, one arm per constructor of `Instr`. -/

namespace Sys2Proof.Machine

def exec (i : Instr) (s : State) : Host.Outcome State Fault Refusal :=
  match i with
  | .rd a d => Sys2Proof.Machine.execRd a d s
  | .wr a v => Sys2Proof.Machine.execWr a v s
  | .init => Sys2Proof.Machine.execInit s
  | .enc => Sys2Proof.Machine.execEnc s
  | .dec => Sys2Proof.Machine.execDec s
  | .zeroize => Sys2Proof.Machine.execZeroize s

end Sys2Proof.Machine
end

