-- ==== Sys2Proof/Machine/Step.lean ====
section
/-!
DEFINITION. One step of the whole: the agent whose turn it is moves (20_memory.md R53). BFE fetches nothing
(10_state.md R22): what stands for a fetch is the host issuing the BUS word at the head of its queue.
-/

namespace Sys2Proof.Machine

/-- One step. With nobody to move the state stays as it is: a clock edge with no transaction and no command in flight
(20_memory.md R44, 70_reset_and_hazards.md R185; notes/assumptions/8.md). -/
def step (s : State) : Host.Outcome State Fault Refusal :=
  match nextAgent s with
  | .nobody => .next s
  | .engine => .next (engineStep s)
  | .host (.bus w) => exec (decode w) s.take
  | .host .wait => exec (.rd 2#6 0#32) s.takeWait
  | .host .rst => .next (resetStep s)

/-- The BUS word that issues a table word: a CMD word is issued by the write of it to `CMD`, a BUS word is itself
(30_encoding.md R70). -/
def fetchWord (nbits w : Nat) : BusWord :=
  if nbits = 32 then busWord true cmdAddr (BitVec.ofNat 32 w) else BitVec.ofNat 39 w

/-- The instruction placed where the next step takes it from: at the head of the host's queue
(notes/assumptions/9.md). -/
def State.withFetchWord (s : State) (nbits w : Nat) : State :=
  { s with queue := .bus (fetchWord nbits w) :: s.queue }

end Sys2Proof.Machine
end

