-- ==== Sys2Proof/Safety.lean ====
section
/-!
DEFINITION. The terms claims are made in: the named premises of 70_reset_and_hazards.md R187, the invariant of 10_state.md
R27 with what it needs to be kept by every step, and what it means that two states look alike to the host.
-/

namespace Sys2Proof.Machine

/-! ## Premises (70_reset_and_hazards.md R187) -/

/-- `Idle`: nothing in flight. -/
def Idle (s : State) : Prop := s.bfe.run = .idle

/-- `NoError`. -/
def NoError (s : State) : Prop := s.bfe.err = false

/-- `AfterReset`: the reset state, `P` and `S` arbitrary (10_state.md R29). -/
def AfterReset (s : State) : Prop := ∃ c, s.bfe = Bfe.afterReset c

/-- `Keyed(n, k)`: idle, no error, a completed schedule, and the key bytes `0 .. n-1` are `k`. -/
def Keyed (n : Nat) (k : Nat → Byte) (s : State) : Prop :=
  Idle s ∧ NoError s ∧ s.bfe.keyValid = true ∧ s.bfe.keyLen.toNat = n ∧ ∀ i, i < n → keyByte s.bfe.key i = k i

/-- `Wiped`: the state after a completed ZEROIZE, `AfterReset` with `P`, `S` all zero. -/
def Wiped (s : State) : Prop := s.bfe = Bfe.afterReset CipherState.zero

/-! ## The invariant -/

/-- What holds of BFE in every reachable state. -/
structure Bfe.Consistent (b : Bfe) : Prop where
  /-- With `KEY_VALID = 1`, `P` and `S` are the schedule of the current key, of legal length (10_state.md R27). -/
  keyed : b.keyValid = true → b.cipher = keySchedule b.keyLen b.key ∧ LegalKeyLen b.keyLen
  /-- While INIT runs, `KEY_VALID = 0` and the length is legal (40_init.md R91, R96). -/
  initRun : b.run = .init → b.keyValid = false ∧ LegalKeyLen b.keyLen
  /-- ENC and DEC run only under a completed schedule (42_encdec.md R128). -/
  blockRun : b.run = .enc ∨ b.run = .dec → b.keyValid = true
  /-- `ERRCODE` is 0 when `ERR = 0` (10_state.md R19). -/
  noCode : b.err = false → b.errCode = 0#4
  /-- Codes 4..15 are never produced (60_exceptions.md R151). -/
  code : b.err = true → b.errCode = 1#4 ∨ b.errCode = 2#4 ∨ b.errCode = 3#4
  /-- `KEYLEN` and `NOKEY` are latched only with `KEY_VALID = 0` (95_test_vectors.md V70, 42_encdec.md R128). -/
  codeUnkeyed : b.errCode = 1#4 ∨ b.errCode = 2#4 → b.keyValid = false
  /-- In the error state nothing but ZEROIZE runs (60_exceptions.md R154). -/
  errRun : b.err = true → b.run = .idle ∨ b.run = .zeroize

/-- The invariant of the whole: BFE is consistent, and the scheduling counter keeps within the free value it is measured
against (the model's own, notes/assumptions/4.md). -/
structure State.Inv (s : State) : Prop where
  bfe : s.bfe.Consistent
  idlePolls : s.bfe.run = .idle → s.polls = 0
  pollsBound : s.polls ≤ Config.busyReads s.epoch

/-! ## What the host can tell apart -/

/-- Two states equal but perhaps for `P` and `S`, and equal there too while `KEY_VALID = 1`: no bus access tells them
apart (10_state.md R29, 93_implementation_defined.md U1). -/
def SameToHost (s t : State) : Prop :=
  t = s.withBfe (s.bfe.withCipher t.bfe.cipher) ∧ (s.bfe.keyValid = true → t.bfe.cipher = s.bfe.cipher)

/-- Word `m` of the 1042 in the order `P[0..17]`, `S[0][0..255]`, `S[1]`, `S[2]`, `S[3]` (40_init.md R94). -/
def CipherState.word (c : CipherState) (m : Fin 1042) : Word :=
  if h : m.val < 18 then c.subkey ⟨m.val, h⟩
  else c.entry ⟨(m.val - 18) / 256, by omega⟩ ⟨(m.val - 18) % 256, by omega⟩

end Sys2Proof.Machine
end

