-- ==== Sys2Proof/Certificates/Slice0/Obligations.lean ====
section
/-!
DEFINITION. What is claimed of the model, each claim with the rule of spec/ it comes from. Statements only.
-/

open Sys2Proof
open Sys2Proof.Machine

/-! ## Decoding (30_encoding.md) -/

/-- Words written out from 30_encoding.md R71, R72, R74 and R80 decode to what they stand for. -/
def Obligations.ListedWordsDecode : Prop :=
  decodeListing 0x4401234567 = .ok (.wr 4#6 0x01234567#32) ∧
  decodeListing 0x0200000000 = .ok (.rd 2#6 0#32) ∧
  decodeListing 0x5D35363738 = .ok (.wr 29#6 0x35363738#32) ∧
  decodeListing 0x4100000001 = .ok .init ∧
  decodeListing 0x4100000002 = .ok .enc ∧
  decodeListing 0x4100000003 = .ok .dec ∧
  decodeListing 0x4100000004 = .ok .zeroize ∧
  decodeListing 0x4100000102 = .ok (.wr 1#6 0x102#32) ∧
  decodeTableWord 32 1 = some .init ∧ decodeTableWord 32 2 = some .enc ∧ decodeTableWord 32 3 = some .dec ∧
  decodeTableWord 32 4 = some .zeroize ∧ decodeTableWord 32 0 = none ∧ decodeTableWord 32 0x80000002 = none

/-- Decoding the BUS word of a well-formed instruction gives the instruction back, every operand at every value
(30_encoding.md R70, R71, R74, R80). -/
def Obligations.DecodeOfEncode : Prop := ∀ i : Instr, i.wf = true → decode (encode i) = i

/-- Every 39-bit BUS word is legal: it decodes to a well-formed instruction (30_encoding.md R77, R71). That no bit of it is
dropped (`encode (decode w) = w`) is the model's choice, notes/assumptions/7.md: `RD` carries the `wdata` that BFE ignores,
and the write of a legal CMD word to `CMD` is spelled as the command. -/
def Obligations.EveryBusWordIsAnInstruction : Prop := ∀ w : BusWord, (decode w).wf = true ∧ encode (decode w) = w

/-- Of the `2^32` CMD words the decoder accepts exactly the four of the opcode map, and what it calls illegal is what
30_encoding.md R75 calls illegal: a reserved bit set, or an opcode not in `0x01..0x04` (R74, R75). -/
def Obligations.CmdDecoderAcceptsFour : Prop :=
  ∀ v : Word,
    (∀ i, decodeCmd v = .ok i ↔ encodeCmd i = some v) ∧
    (decodeCmd v = .error .illegalCmdWord ↔ v.toNat / 256 ≠ 0 ∨ v.toNat % 256 < 1 ∨ 4 < v.toNat % 256)

/-- A word of the opcode table, placed where the next step takes its instruction from, is what the next step of an idle
engine runs (30_encoding.md R70). The model's own choices in it: the placing, notes/assumptions/9.md; the lengths a table word may have,
32, 39 or 40 bits, notes/assumptions/17.md; and the counter `polls` set to 0, notes/assumptions/4.md. -/
def Obligations.PlacedTableWordRuns : Prop :=
  ∀ (s : State) (nbits w : Nat) (i : Instr), s.bfe.run = .idle → decodeTableWord nbits w = some i →
    step (s.withFetchWord nbits w) = exec i { s with polls := 0 }

/-! ## The step: two agents, the hold, completion (20_memory.md) -/

/-- A step of an idle engine runs the instruction at the head of the host's queue, and only takes it off the queue
(20_memory.md R41, R42, R53; the queue is the model's own, notes/assumptions/1.md, and so is the counter `polls`,
notes/assumptions/4.md). -/
def Obligations.StepRunsIssuedInstruction : Prop :=
  ∀ (s : State) (w : BusWord) (q : List HostAct), s.queue = .bus w :: q → s.bfe.run = .idle →
    step s = exec (decode w) { s with queue := q, polls := 0 }

/-- While a command runs every transaction but a read of `STATUS` is held: issued, it has no effect and returns no data;
at the head of the queue it stays there while the engine completes, and the step after that performs it unchanged. A read
of `STATUS` completes at once in every state, and while a command runs it has `BUSY = 1` (20_memory.md R43). -/
def Obligations.BusyHoldsTransactions : Prop :=
  (∀ (s : State) (i : Instr), s.bfe.run ≠ .idle → (∀ d, i ≠ .rd 2#6 d) → exec i s = .next s) ∧
  (∀ (s : State) (w : BusWord) (q : List HostAct), s.bfe.run ≠ .idle → s.queue = .bus w :: q →
    (∀ d, decode w ≠ .rd 2#6 d) →
    ∃ t, step s = .next t ∧ t.bfe.run = .idle ∧ t.queue = s.queue ∧ t.reads = s.reads ∧
      step t = exec (decode w) { t with queue := q }) ∧
  (∀ (s : State) (d : Word), exec (.rd 2#6 d) s = .next { s with reads := s.reads ++ [s.bfe.status] }) ∧
  (∀ s : State, s.bfe.run ≠ .idle → s.bfe.status.getLsbD 0 = true)

/-- What the ports show is what the transaction does: held with `ready = 0` it changes nothing, and the host gets the value
on `rdata` where one is valid and nothing otherwise (20_memory.md R43, R44). -/
def Obligations.PortsShowTheTransaction : Prop :=
  ∀ (s t : State) (w : BusWord), exec (decode w) s = .next t →
    t.reads = s.reads ++ (rdata s.bfe w).toList ∧ (ready s.bfe w = false → t = s) ∧
    (ready s.bfe w = false ↔ s.bfe.run ≠ .idle ∧ ∀ d, decode w ≠ .rd 2#6 d)

/-- A `STATUS` read met by a running command goes before or after the engine's step, as the free schedule says; before it,
it reads the flags as they are and leaves BFE alone (20_memory.md R43, R53; the schedule is the model's own,
notes/assumptions/4.md). -/
def Obligations.StatusReadRacesCompletion : Prop :=
  ∀ (s : State) (w : BusWord) (q : List HostAct) (d : Word), s.bfe.run ≠ .idle → s.queue = .bus w :: q →
    decode w = .rd 2#6 d →
    step s =
      if s.polls < Config.busyReads s.epoch then
        .next { s with queue := q, polls := s.polls + 1, reads := s.reads ++ [s.bfe.status] }
      else .next (engineStep s)

/-- Whenever only the engine can move (a command runs, and the host has nothing to do or is held), the step is the
completion step: the whole effect of the command in flight as one change, back to idle, nothing of the host's touched
(20_memory.md R50). With the engine idle it has no step; that a step of the whole then leaves the state as it is, the host
having nothing to do either, is the model's choice, notes/assumptions/8.md. -/
def Obligations.EngineCompletesCommand : Prop :=
  ∀ s : State,
    (s.bfe.run = .idle → s.queue = [] → step s = .next s) ∧
    (s.bfe.run ≠ .idle → (∀ a q, s.queue = a :: q → a.neverHeld = false) →
      ∃ t, step s = .next t ∧ t.queue = s.queue ∧ t.reads = s.reads ∧
      (s.bfe.run = .init → t.bfe =
        { s.bfe with cipher := keySchedule s.bfe.keyLen s.bfe.key, keyValid := true, run := .idle }) ∧
      (s.bfe.run = .enc → t.bfe =
        { s.bfe with
          dataL := (encBlock s.bfe.cipher (s.bfe.dataL, s.bfe.dataR)).1
          dataR := (encBlock s.bfe.cipher (s.bfe.dataL, s.bfe.dataR)).2
          run := .idle }) ∧
      (s.bfe.run = .dec → t.bfe =
        { s.bfe with
          dataL := (decBlock s.bfe.cipher (s.bfe.dataL, s.bfe.dataR)).1
          dataR := (decBlock s.bfe.cipher (s.bfe.dataL, s.bfe.dataR)).2
          run := .idle }) ∧
      (s.bfe.run = .zeroize → t.bfe = Bfe.afterReset CipherState.zero))

/-- Every accepted command completes: whatever the host has queued, the engine is idle again within as many steps as the
free schedule leaves the host, plus one; and unless the host resets BFE first, with exactly the effect of the command
(20_memory.md R53; the bound, in terms of the free schedule, is the model's own, notes/assumptions/4.md, and so is the reset
as an act of the host's queue, notes/assumptions/5.md). -/
def Obligations.EveryCommandCompletes : Prop :=
  ∀ s : State, s.bfe.run ≠ .idle →
    ∃ k t, k ≤ Config.busyReads s.epoch - s.polls + 1 ∧ Sys2Proof.core.run k s = .next t ∧ t.bfe.run = .idle ∧
      ((∀ a ∈ s.queue, a ≠ .rst) → t.bfe = complete s.bfe)

/-- There is no state from which BFE cannot proceed: every step, and every instruction in every state, answers a next
state (60_exceptions.md R161; the answer where neither agent has a step is the model's choice, notes/assumptions/8.md). -/
def Obligations.StepNeverStops : Prop :=
  (∀ s : State, ∃ t, step s = .next t) ∧ (∀ (i : Instr) (s : State), ∃ t, exec i s = .next t)

/-- An idle engine becomes busy only by the issue of an accepted command: the one at the head of the queue, with `ERR = 0`
unless it is ZEROIZE (10_state.md R21, R24; 20_memory.md R48). -/
def Obligations.BusyOnlyByAcceptedCommand : Prop :=
  ∀ s t : State, s.bfe.run = .idle → step s = .next t → t.bfe.run ≠ .idle →
    ∃ w q, s.queue = .bus w :: q ∧
      ((decode w = .init ∧ t.bfe.run = .init ∧ s.bfe.err = false) ∨
       (decode w = .enc ∧ t.bfe.run = .enc ∧ s.bfe.err = false) ∨
       (decode w = .dec ∧ t.bfe.run = .dec ∧ s.bfe.err = false) ∨
       (decode w = .zeroize ∧ t.bfe.run = .zeroize))

/-- `WAIT` ends after finitely many reads, with the engine idle, the last value read having bit 0 = 0 and every earlier one
bit 0 = 1 (30_encoding.md R80, 20_memory.md R53). That `WAIT` is one act of the host is the model's choice,
notes/assumptions/14.md, and so is the bound on its steps, in terms of the free schedule, notes/assumptions/4.md. -/
def Obligations.WaitEndsIdle : Prop :=
  ∀ (s : State) (q : List HostAct), s.queue = .wait :: q →
    ∃ k t l v, k ≤ Config.busyReads s.epoch - s.polls + 2 ∧ Sys2Proof.core.run k s = .next t ∧ t.queue = q ∧
      t.bfe.run = .idle ∧ t.bfe = complete s.bfe ∧ t.reads = s.reads ++ l ++ [v] ∧ v.getLsbD 0 = false ∧
      ∀ u ∈ l, u.getLsbD 0 = true

/-! ## Bus reads (20_memory.md R41) -/

/-- A read returns the value the register map gives its address and changes nothing of BFE, whatever its `wdata` bits; held,
it does nothing (20_memory.md R41). -/
def Obligations.ReadReturnsMappedValue : Prop :=
  ∀ (s : State) (a : Addr) (d : Word),
    (s.bfe.run = .idle ∨ a = 2#6 → exec (.rd a d) s = .next { s with reads := s.reads ++
      [if a = 0#6 then 0x42465348#32
       else if a = 1#6 then 0#32
       else if a = 2#6 then s.bfe.status
       else if a = 3#6 then s.bfe.keyLen.setWidth 32
       else if a = 4#6 then s.bfe.dataL
       else if a = 5#6 then s.bfe.dataR
       else 0#32] }) ∧
    (s.bfe.run ≠ .idle → a ≠ 2#6 → exec (.rd a d) s = .next s)

/-- The bits of `STATUS`: `BUSY` 0, `KEY_VALID` 1, `ERR` 2, `ERRCODE` 11..8, every other bit zero (10_state.md R19). -/
def Obligations.StatusWordFields : Prop :=
  ∀ b : Bfe, b.status.toNat =
    b.errCode.toNat * 256 + b.err.toNat * 4 + b.keyValid.toNat * 2 + (if b.run = .idle then 0 else 1)

/-- No read tells apart two states that differ in nothing but the key registers, `P` and `S`: the key cannot be read back
(10_state.md R13, 20_memory.md R40, 60_exceptions.md R159). -/
def Obligations.ReadsRevealNoKey : Prop :=
  ∀ (s t t' : State) (c : CipherState) (k : Vector Word 14) (a : Addr) (d : Word),
    exec (.rd a d) s = .next t →
    exec (.rd a d) (s.withBfe { s.bfe with cipher := c, key := k }) = .next t' → t'.reads = t.reads

/-! ## Bus writes and the dispatch of commands (20_memory.md R42, 30_encoding.md R73) -/

/-- The effect of a write by address: `CMD` dispatches, `KEYLEN` takes the low byte and `KEY[i]` the word while
`KEY_VALID = 0`, the data registers take the word, every other address ignores it; held, it does nothing
(20_memory.md R42). -/
def Obligations.WriteEffectByAddress : Prop :=
  ∀ (s : State) (a : Addr) (v : Word),
    (s.bfe.run = .idle → exec (.wr a v) s = .next { s with bfe := (
      if a = 1#6 then dispatch v s.bfe
      else if a = 3#6 then (if s.bfe.keyValid then s.bfe else { s.bfe with keyLen := BitVec.ofNat 8 (v.toNat % 256) })
      else if a = 4#6 then { s.bfe with dataL := v }
      else if a = 5#6 then { s.bfe with dataR := v }
      else if 16 ≤ a.toNat ∧ a.toNat ≤ 29 then
        (if s.bfe.keyValid then s.bfe else { s.bfe with key := s.bfe.key.setIfInBounds (a.toNat - 16) v })
      else s.bfe) }) ∧
    (s.bfe.run ≠ .idle → exec (.wr a v) s = .next s)

/-- What a write of `v` to `CMD` does, check by check in the order of the rule (30_encoding.md R73). -/
def Obligations.CommandDispatch : Prop :=
  ∀ (s : State) (v : Word), s.bfe.run = .idle →
    exec (.wr 1#6 v) s = .next { s with bfe := (
      if s.bfe.err then (if v.toNat = 4 then { s.bfe with run := .zeroize } else s.bfe)
      else if v.toNat / 256 ≠ 0 ∨ v.toNat % 256 < 1 ∨ 4 < v.toNat % 256 then { s.bfe with err := true, errCode := 3#4 }
      else if v.toNat = 1 then
        (if s.bfe.keyLen.toNat < 4 ∨ 56 < s.bfe.keyLen.toNat then { s.bfe with err := true, errCode := 1#4 }
         else { s.bfe with keyValid := false, run := .init })
      else if v.toNat = 2 then
        (if s.bfe.keyValid then { s.bfe with run := .enc } else { s.bfe with err := true, errCode := 2#4 })
      else if v.toNat = 3 then
        (if s.bfe.keyValid then { s.bfe with run := .dec } else { s.bfe with err := true, errCode := 2#4 })
      else { s.bfe with run := .zeroize }) }

/-- A command is the write of its CMD word to `CMD`, in every state (30_encoding.md R70, R80). -/
def Obligations.CommandIsItsCmdWrite : Prop :=
  ∀ s : State, exec .init s = exec (.wr 1#6 1#32) s ∧ exec .enc s = exec (.wr 1#6 2#32) s ∧
    exec .dec s = exec (.wr 1#6 3#32) s ∧ exec .zeroize s = exec (.wr 1#6 4#32) s

/-- Writing `KEY[i]` with the lock open puts the four bytes of the word at key bytes `4i .. 4i+3`, most significant first,
and leaves every other key byte (10_state.md R17, R25; 20_memory.md R42). -/
def Obligations.KeyWriteSetsItsFourBytes : Prop :=
  ∀ (s : State) (i : Fin 14) (v : Word), s.bfe.run = .idle → s.bfe.keyValid = false →
    ∃ t, exec (.wr (BitVec.ofNat 6 (16 + i.val)) v) s = .next t ∧
      ∀ n, n < 56 → keyByte t.bfe.key n =
        if n / 4 = i.val then BitVec.ofNat 8 (v.toNat / 2 ^ (24 - 8 * (n % 4)) % 256) else keyByte s.bfe.key n

/-- The key lock: with `KEY_VALID = 1` a write to `KEY` or `KEYLEN` is completed without effect; and from the issue of an
accepted INIT to the completion of a ZEROIZE, or a reset, no step changes the key buffer (10_state.md R16). -/
def Obligations.KeyLockHolds : Prop :=
  (∀ (s : State) (a : Addr) (v : Word), s.bfe.keyValid = true → a = 3#6 ∨ 16 ≤ a.toNat ∧ a.toNat ≤ 29 →
    exec (.wr a v) s = .next s) ∧
  (∀ s t : State, step s = .next t → s.bfe.keyValid = true ∨ s.bfe.run = .init → s.bfe.run ≠ .zeroize →
    s.queue.head? ≠ some .rst → t.bfe.key = s.bfe.key ∧ t.bfe.keyLen = s.bfe.keyLen)

/-- What a `WR` may change: nothing of `P`, `S` ever, and every register only at its own address; nothing of the host's
(20_memory.md R42). -/
def Obligations.WriteFrame : Prop :=
  ∀ (s t : State) (a : Addr) (v : Word), exec (.wr a v) s = .next t →
    t.bfe.cipher = s.bfe.cipher ∧ t.queue = s.queue ∧ t.reads = s.reads ∧
    (a ≠ 3#6 → t.bfe.keyLen = s.bfe.keyLen) ∧ (a ≠ 4#6 → t.bfe.dataL = s.bfe.dataL) ∧
    (a ≠ 5#6 → t.bfe.dataR = s.bfe.dataR) ∧
    (∀ i : Fin 14, a.toNat ≠ 16 + i.val → t.bfe.key[i.val] = s.bfe.key[i.val]) ∧
    (a ≠ 1#6 → t.bfe.keyValid = s.bfe.keyValid ∧ t.bfe.err = s.bfe.err ∧ t.bfe.errCode = s.bfe.errCode ∧
      t.bfe.run = s.bfe.run)

/-- What issuing a command may change: `RUN`, the error flags and, by an accepted INIT, `KEY_VALID`; no storage, no data
and no key register, nothing of the host's (30_encoding.md R73). -/
def Obligations.CommandIssueFrame : Prop :=
  ∀ (s t : State) (i : Instr), i = .init ∨ i = .enc ∨ i = .dec ∨ i = .zeroize → exec i s = .next t →
    t.bfe.cipher = s.bfe.cipher ∧ t.bfe.key = s.bfe.key ∧ t.bfe.keyLen = s.bfe.keyLen ∧ t.bfe.dataL = s.bfe.dataL ∧
    t.bfe.dataR = s.bfe.dataR ∧ t.queue = s.queue ∧ t.reads = s.reads ∧
    (i ≠ .init → t.bfe.keyValid = s.bfe.keyValid) ∧
    (i = .zeroize → t.bfe.err = s.bfe.err ∧ t.bfe.errCode = s.bfe.errCode) ∧
    (t.bfe.err ≠ s.bfe.err ∨ t.bfe.errCode ≠ s.bfe.errCode → t.bfe.run = s.bfe.run ∧ t.bfe.keyValid = s.bfe.keyValid)

/-! ## INIT (40_init.md) -/

/-- An accepted INIT: `KEY_VALID` is cleared and `RUN` set at issue; its completion makes `(P, S)` the key schedule of the
key registers, sets `KEY_VALID`, and changes nothing else (40_init.md R96, R97). -/
def Obligations.InitBuildsCipherState : Prop :=
  ∀ s : State, s.bfe.run = .idle → s.bfe.err = false → 4 ≤ s.bfe.keyLen.toNat → s.bfe.keyLen.toNat ≤ 56 →
    ∃ t, exec .init s = .next t ∧ t = { s with bfe := { s.bfe with keyValid := false, run := .init } } ∧
      (engineStep t).bfe = { s.bfe with cipher := keySchedule s.bfe.keyLen s.bfe.key, keyValid := true } ∧
      (engineStep t).queue = s.queue ∧ (engineStep t).reads = s.reads

/-- INIT with a length outside 4..56 latches error 1 and does nothing else; the bounds are inclusive
(40_init.md R91). -/
def Obligations.InitChecksKeyLength : Prop :=
  ∀ s : State, s.bfe.run = .idle → s.bfe.err = false →
    (s.bfe.keyLen.toNat < 4 ∨ 56 < s.bfe.keyLen.toNat →
      exec .init s = .next { s with bfe := { s.bfe with err := true, errCode := 1#4 } }) ∧
    (4 ≤ s.bfe.keyLen.toNat ∧ s.bfe.keyLen.toNat ≤ 56 →
      exec .init s = .next { s with bfe := { s.bfe with keyValid := false, run := .init } })

/-- The 1042 constants in order: exclusive-or and sum modulo `2^32` as the spec gives them, no two words of `P_INIT` equal
(41_init_constants.md R116). -/
def Obligations.ConstantTablesMeetChecks : Prop :=
  (CipherState.constants.p.toList ++ CipherState.constants.sbox.toList.flatMap Vector.toList).length = 1042 ∧
  (CipherState.constants.p.toList ++ CipherState.constants.sbox.toList.flatMap Vector.toList).foldl (· ^^^ ·) 0#32 =
    0x6FFA520A#32 ∧
  (CipherState.constants.p.toList ++ CipherState.constants.sbox.toList.flatMap Vector.toList).foldl (· + ·) 0#32 =
    0x6BBF03AC#32 ∧
  CipherState.constants.p.toList.Nodup

/-- Key byte `i` is the field of `KEY[i div 4]` that the rule names (10_state.md R17). -/
def Obligations.KeyByteIsItsField : Prop :=
  ∀ (key : Vector Word 14) (i : Fin 56),
    (keyByte key i.val).toNat = key[i.val / 4].toNat / 2 ^ (24 - 8 * (i.val % 4)) % 256

/-- Key XOR: `P[j]` is exclusive-ored with the word of key bytes `4j .. 4j+3` taken modulo the length, first byte most
significant; the S-boxes are not touched (40_init.md R93). -/
def Obligations.KeyXorStep : Prop :=
  ∀ (n : Nat) (key : Vector Word 14) (c : CipherState),
    (mixKey n key c).sbox = c.sbox ∧
    ∀ j : Fin 18, ∃ kw : Word, (mixKey n key c).subkey j = c.subkey j ^^^ kw ∧
      kw.toNat = (keyByte key ((4 * j.val) % n)).toNat * 2 ^ 24 + (keyByte key ((4 * j.val + 1) % n)).toNat * 2 ^ 16 +
        (keyByte key ((4 * j.val + 2) % n)).toNat * 2 ^ 8 + (keyByte key ((4 * j.val + 3) % n)).toNat

/-- The replacement chain: from the key-mixed constants and the all-zero block, 521 encryptions, each under the state left
by the one before; encryption `m` replaces words `2m` (left half) and `2m+1` (right half) of the 1042 in order and no
other; the result is the schedule (40_init.md R92, R94, R95). -/
def Obligations.ScheduleIsReplacementChain : Prop :=
  ∀ (n : BitVec 8) (key : Vector Word 14), ∃ (st : Nat → CipherState) (blk : Nat → Block),
    st 0 = mixKey n.toNat key CipherState.constants ∧ blk 0 = (0#32, 0#32) ∧
    (∀ m, m < 521 → blk (m + 1) = encBlock (st m) (blk m) ∧
      ∀ j : Fin 1042, (st (m + 1)).word j =
        if j.val = 2 * m then (blk (m + 1)).1 else if j.val = 2 * m + 1 then (blk (m + 1)).2 else (st m).word j) ∧
    keySchedule n key = st 521

/-- The schedule is a function of the length and of the key bytes below it alone (40_init.md R95). -/
def Obligations.ScheduleReadsOnlyTheKey : Prop :=
  ∀ (n : BitVec 8) (k k' : Vector Word 14), 0 < n.toNat →
    (∀ i, i < n.toNat → keyByte k i = keyByte k' i) → keySchedule n k = keySchedule n k'

/-- Two keys, of any lengths, with the same cyclic 72-byte expansion give the same cipher state (40_init.md R99). -/
def Obligations.EqualExpansionsEqualSchedules : Prop :=
  ∀ (n n' : BitVec 8) (k k' : Vector Word 14),
    (∀ i, i < 72 → keyByte k (i % n.toNat) = keyByte k' (i % n'.toNat)) → keySchedule n k = keySchedule n' k'

/-! ## ENC and DEC (42_encdec.md) -/

/-- The round function, by arithmetic on naturals: the four bytes of `x`, most significant first, index the four boxes;
sum, exclusive-or, sum, strictly left to right, each sum modulo `2^32` (42_encdec.md R121). -/
def Obligations.RoundFunctionValue : Prop :=
  ∀ (c : CipherState) (x : Word) (i₀ i₁ i₂ i₃ : Fin 256),
    x.toNat = i₀.val * 2 ^ 24 + i₁.val * 2 ^ 16 + i₂.val * 2 ^ 8 + i₃.val →
    (roundF c x).toNat =
      (((((c.entry 0 i₀).toNat + (c.entry 1 i₁).toNat) % 2 ^ 32) ^^^ (c.entry 2 i₂).toNat) + (c.entry 3 i₃).toNat) %
        2 ^ 32

/-- Encryption by the recurrence of the rule: `L_0, R_0` the block, `R_i = L_(i-1) ^ P[i-1]`,
`L_i = R_(i-1) ^ F(R_i)`, the result `(R_16 ^ P[17], L_16 ^ P[16])` (42_encdec.md R123). -/
def Obligations.EncBlockRecurrence : Prop :=
  ∀ (c : CipherState) (L R : Nat → Word),
    (∀ i : Fin 16, R (i.val + 1) = L i.val ^^^ c.subkey ⟨i.val, by omega⟩ ∧
      L (i.val + 1) = R i.val ^^^ roundF c (R (i.val + 1))) →
    encBlock c (L 0, R 0) = (R 16 ^^^ c.subkey 17, L 16 ^^^ c.subkey 16)

/-- Decryption is encryption with `P[i]` replaced by `P[17-i]` throughout, the S-boxes the same (42_encdec.md R126). -/
def Obligations.DecBlockIsReversedEncBlock : Prop :=
  ∀ (c c' : CipherState) (x : Block), (∀ j : Fin 18, c'.subkey j = c.subkey ⟨17 - j.val, by omega⟩) →
    c'.sbox = c.sbox → decBlock c x = encBlock c' x

/-- The inverse law, for every content of `P` and `S` and every block, and its converse (42_encdec.md R127). -/
def Obligations.DecryptInvertsEncrypt : Prop :=
  ∀ (c : CipherState) (x : Block), decBlock c (encBlock c x) = x ∧ encBlock c (decBlock c x) = x

/-- ENC under a completed schedule: accepted, and its completion replaces both data registers by the encryption of the old
pair, and nothing else (42_encdec.md R129). -/
def Obligations.EncEncryptsInPlace : Prop :=
  ∀ s : State, s.bfe.run = .idle → s.bfe.err = false → s.bfe.keyValid = true →
    ∃ t, exec .enc s = .next t ∧ t = { s with bfe := { s.bfe with run := .enc } } ∧
      (engineStep t).bfe = { s.bfe with
        dataL := (encBlock s.bfe.cipher (s.bfe.dataL, s.bfe.dataR)).1
        dataR := (encBlock s.bfe.cipher (s.bfe.dataL, s.bfe.dataR)).2 } ∧
      (engineStep t).queue = s.queue ∧ (engineStep t).reads = s.reads

/-- DEC under a completed schedule: accepted, and its completion replaces both data registers by the decryption of the old
pair, and nothing else (42_encdec.md R130). -/
def Obligations.DecDecryptsInPlace : Prop :=
  ∀ s : State, s.bfe.run = .idle → s.bfe.err = false → s.bfe.keyValid = true →
    ∃ t, exec .dec s = .next t ∧ t = { s with bfe := { s.bfe with run := .dec } } ∧
      (engineStep t).bfe = { s.bfe with
        dataL := (decBlock s.bfe.cipher (s.bfe.dataL, s.bfe.dataR)).1
        dataR := (decBlock s.bfe.cipher (s.bfe.dataL, s.bfe.dataR)).2 } ∧
      (engineStep t).queue = s.queue ∧ (engineStep t).reads = s.reads

/-- ENC and DEC without a completed schedule latch error 2 and do nothing else; with one they are accepted
(42_encdec.md R128). -/
def Obligations.EncDecNeedKey : Prop :=
  ∀ s : State, s.bfe.run = .idle → s.bfe.err = false →
    (s.bfe.keyValid = false →
      exec .enc s = .next { s with bfe := { s.bfe with err := true, errCode := 2#4 } } ∧
      exec .dec s = .next { s with bfe := { s.bfe with err := true, errCode := 2#4 } }) ∧
    (s.bfe.keyValid = true →
      exec .enc s = .next { s with bfe := { s.bfe with run := .enc } } ∧
      exec .dec s = .next { s with bfe := { s.bfe with run := .dec } })

/-- ENC then DEC, each run to completion, restores the block and every other register, in any state with a completed
schedule and no error; DEC then ENC likewise (42_encdec.md R127, R132). -/
def Obligations.EncThenDecRestoresBlock : Prop :=
  ∀ s : State, s.bfe.run = .idle → s.bfe.err = false → s.bfe.keyValid = true →
    (∃ t u, exec .enc s = .next t ∧ exec .dec (engineStep t) = .next u ∧ (engineStep u).bfe = s.bfe) ∧
    (∃ t u, exec .dec s = .next t ∧ exec .enc (engineStep t) = .next u ∧ (engineStep u).bfe = s.bfe)

/-- Between key schedules the cipher state is read-only: a step changes `P` or `S` only by completing an INIT or a ZEROIZE,
or by a reset (10_state.md R11, R12, R28). -/
def Obligations.CipherStateReadOnly : Prop :=
  ∀ s t : State, step s = .next t → t.bfe.cipher ≠ s.bfe.cipher →
    ((s.bfe.run = .init ∨ s.bfe.run = .zeroize) ∧ t = engineStep s) ∨ (s.queue.head? = some .rst ∧ t = resetStep s)

/-! ## ZEROIZE (43_control.md) -/

/-- ZEROIZE is accepted whenever the engine is idle, whatever the flags; its completion clears every subkey, S-box entry,
key word, register and flag (43_control.md R141). -/
def Obligations.ZeroizeClearsEverything : Prop :=
  ∀ s : State, s.bfe.run = .idle →
    ∃ t, exec .zeroize s = .next t ∧ t = { s with bfe := { s.bfe with run := .zeroize } } ∧
      (∀ j, (engineStep t).bfe.cipher.subkey j = 0#32) ∧ (∀ k i, (engineStep t).bfe.cipher.entry k i = 0#32) ∧
      (∀ i : Fin 14, (engineStep t).bfe.key[i.val] = 0#32) ∧ (engineStep t).bfe.keyLen = 0#8 ∧
      (engineStep t).bfe.dataL = 0#32 ∧ (engineStep t).bfe.dataR = 0#32 ∧ (engineStep t).bfe.keyValid = false ∧
      (engineStep t).bfe.err = false ∧ (engineStep t).bfe.errCode = 0#4 ∧ (engineStep t).bfe.run = .idle ∧
      Wiped (engineStep t) ∧ (engineStep t).queue = s.queue ∧ (engineStep t).reads = s.reads

/-! ## Errors (60_exceptions.md) -/

/-- A word that is no legal CMD word latches error 3 and starts nothing; in the error state it has no effect
(30_encoding.md R75). -/
def Obligations.IllegalCommandLatched : Prop :=
  ∀ (s : State) (v : Word), s.bfe.run = .idle → v.toNat / 256 ≠ 0 ∨ v.toNat % 256 < 1 ∨ 4 < v.toNat % 256 →
    (s.bfe.err = false → exec (.wr 1#6 v) s = .next { s with bfe := { s.bfe with err := true, errCode := 3#4 } }) ∧
    (s.bfe.err = true → exec (.wr 1#6 v) s = .next s)

/-- The error state turns away every command but ZEROIZE without any effect; reads, and writes to the data registers, work
as usual (60_exceptions.md R153, R154). -/
def Obligations.ErrorStateAcceptsOnlyZeroize : Prop :=
  ∀ s : State, s.bfe.run = .idle → s.bfe.err = true →
    exec .init s = .next s ∧ exec .enc s = .next s ∧ exec .dec s = .next s ∧
    (∀ v : Word, v ≠ 4#32 → exec (.wr 1#6 v) s = .next s) ∧
    exec .zeroize s = .next { s with bfe := { s.bfe with run := .zeroize } } ∧
    (∀ v : Word, exec (.wr 4#6 v) s = .next { s with bfe := { s.bfe with dataL := v } }) ∧
    (∀ v : Word, exec (.wr 5#6 v) s = .next { s with bfe := { s.bfe with dataR := v } }) ∧
    (∀ (a : Addr) (d : Word), exec (.rd a d) s = .next { s with reads := s.reads ++ [busRead a s.bfe] })

/-- Errors are synchronous: only the issue of a command by the host's current transaction can latch one, and only from
`ERR = 0`; no read, no other write, no completion and no reset does (60_exceptions.md R150). -/
def Obligations.OnlyCommandIssueRaises : Prop :=
  ∀ s t : State, step s = .next t → s.bfe.err = false → t.bfe.err = true →
    s.bfe.run = .idle ∧ t.bfe.run = .idle ∧ (t.bfe.errCode = 1#4 ∨ t.bfe.errCode = 2#4 ∨ t.bfe.errCode = 3#4) ∧
    t.bfe = { s.bfe with err := true, errCode := t.bfe.errCode } ∧
    ∃ w q, s.queue = .bus w :: q ∧
      (decode w = .init ∨ decode w = .enc ∨ decode w = .dec ∨ ∃ v, decode w = .wr 1#6 v)

/-- The error state is left only by the completion of ZEROIZE or by a reset, both of which also clear `KEY_VALID`; until
then `ERRCODE` keeps the first error (60_exceptions.md R152, R155). -/
def Obligations.ErrorStateLeftOnlyByWipe : Prop :=
  ∀ s t : State, step s = .next t → s.bfe.err = true →
    (t.bfe.err = true ∧ t.bfe.errCode = s.bfe.errCode) ∨
    (t.bfe.err = false ∧ t.bfe.errCode = 0#4 ∧ t.bfe.keyValid = false ∧ t.bfe.run = .idle ∧
      (s.bfe.run = .zeroize ∨ s.queue.head? = some .rst))

/-- What sets and clears `KEY_VALID`: only the completion of INIT sets it; only the issue of an accepted INIT, the
completion of ZEROIZE and a reset clear it (10_state.md R24). -/
def Obligations.KeyValidWriters : Prop :=
  ∀ s t : State, step s = .next t →
    (s.bfe.keyValid = false → t.bfe.keyValid = true → s.bfe.run = .init ∧ t = engineStep s) ∧
    (s.bfe.keyValid = true → t.bfe.keyValid = false →
      (s.bfe.run = .idle ∧ t.bfe.run = .init ∧ s.bfe.err = false) ∨ (s.bfe.run = .zeroize ∧ t = engineStep s) ∨
      (s.queue.head? = some .rst ∧ t = resetStep s))

/-! ## Reset, and the invariants (70_reset_and_hazards.md, 10_state.md) -/

/-- The state after the power-on reset, every field the spec gives a value (10_state.md R29). That the host
has then nothing to do is the model's own, notes/assumptions/1.md, and so is that it has read nothing,
notes/assumptions/2.md. -/
def Obligations.ResetStateValues : Prop :=
  AfterReset State.reset ∧ State.reset.queue = [] ∧ State.reset.reads = [] ∧
  ∀ c : CipherState, (Bfe.afterReset c).run = .idle ∧ (Bfe.afterReset c).keyValid = false ∧
    (Bfe.afterReset c).err = false ∧ (Bfe.afterReset c).errCode = 0#4 ∧ (Bfe.afterReset c).keyLen = 0#8 ∧
    (∀ i : Fin 14, (Bfe.afterReset c).key[i.val] = 0#32) ∧ (Bfe.afterReset c).dataL = 0#32 ∧
    (Bfe.afterReset c).dataR = 0#32 ∧ (Bfe.afterReset c).cipher = c ∧ (Bfe.afterReset c).status = 0#32

/-- The reset pin takes an idle BFE to the reset state; met by a running command, it does so with the command abandoned, or
comes after its completion, as the free schedule says; no transaction is performed in that step
(70_reset_and_hazards.md R180, R181). The schedule is the model's own, notes/assumptions/4.md, and so are the reset as an
act of the host's queue, notes/assumptions/5.md, and that it leaves what the host has read, notes/assumptions/2.md. -/
def Obligations.ResetPinEntersResetState : Prop :=
  ∀ (s : State) (q : List HostAct), s.queue = .rst :: q →
    ∃ t, step s = .next t ∧ t.reads = s.reads ∧
      if s.bfe.run = .idle ∨ s.polls < Config.busyReads s.epoch then AfterReset t ∧ t.queue = q
      else t.bfe = complete s.bfe ∧ t.queue = .rst :: q

/-- Every step, from any state that has it, keeps the invariant: with `KEY_VALID = 1`, `(P, S)` is the key schedule of the
current `KEYLEN` and `KEY` and the length is legal, with what is needed to keep that (10_state.md R27; the bounds on the
scheduling counter are the model's own, notes/assumptions/4.md). -/
def Obligations.StepKeepsInvariant : Prop := ∀ s t : State, s.Inv → step s = .next t → t.Inv

/-- In every state a host can bring about from reset, `KEY_VALID = 1` means that `(P, S)` is the key schedule of the current
`KEYLEN` and `KEY[]`, and that the length is legal (10_state.md R27). -/
def Obligations.ReachableKeyedMeansScheduled : Prop :=
  ∀ (q : List HostAct) (k : Nat) (t : State), Sys2Proof.core.run k { State.reset with queue := q } = .next t →
    t.bfe.keyValid = true →
    t.bfe.cipher = keySchedule t.bfe.keyLen t.bfe.key ∧ 4 ≤ t.bfe.keyLen.toNat ∧ t.bfe.keyLen.toNat ≤ 56

/-- The invariant holds right after reset (10_state.md R27, R29; that the scheduling counters are then 0, on which its two
clauses about them rest, is the model's own, notes/assumptions/4.md). -/
def Obligations.InvariantAtReset : Prop := State.reset.Inv

/-- The reset contents of `P` and `S` are invisible: two consistent states that differ in nothing but `P` and `S` while
`KEY_VALID = 0` step to two such states, with the same values returned to the host (10_state.md R29). -/
def Obligations.ResetContentsInvisible : Prop :=
  ∀ s t s' : State, s.Inv → SameToHost s t → step s = .next s' →
    ∃ t', step t = .next t' ∧ SameToHost s' t' ∧ t'.reads = s'.reads

/-- The byte view of a block: bytes and words determine each other, byte 0 in `DATA_L[31:24]`, byte 7 in `DATA_R[7:0]`
(10_state.md R30). -/
def Obligations.BlockByteView : Prop :=
  (∀ b : Vector Byte 8, bytesOfBlock (blockOfBytes b) = b) ∧
  (∀ x : Block, blockOfBytes (bytesOfBlock x) = x) ∧
  (∀ (x : Block) (i : Fin 8), (bytesOfBlock x)[i.val].toNat =
    (x.1.toNat * 2 ^ 32 + x.2.toNat) / 2 ^ (56 - 8 * i.val) % 256)
end

