-- ==== Sys2Proof/Laws/State.lean ====
section
/-!
SUPPORT. What each named update does to each field: one lemma per field per update, all true by `rfl`, so that no proof
unfolds a record update.
-/

namespace Sys2Proof.Machine

/-! ## `Bfe.withRun` -/

section
variable (b : Bfe) (r : Run)
@[simp] theorem Bfe.withRun_cipher : (b.withRun r).cipher = b.cipher := rfl
@[simp] theorem Bfe.withRun_key : (b.withRun r).key = b.key := rfl
@[simp] theorem Bfe.withRun_keyLen : (b.withRun r).keyLen = b.keyLen := rfl
@[simp] theorem Bfe.withRun_dataL : (b.withRun r).dataL = b.dataL := rfl
@[simp] theorem Bfe.withRun_dataR : (b.withRun r).dataR = b.dataR := rfl
@[simp] theorem Bfe.withRun_keyValid : (b.withRun r).keyValid = b.keyValid := rfl
@[simp] theorem Bfe.withRun_err : (b.withRun r).err = b.err := rfl
@[simp] theorem Bfe.withRun_errCode : (b.withRun r).errCode = b.errCode := rfl
@[simp] theorem Bfe.withRun_run : (b.withRun r).run = r := rfl
end

/-! ## `Bfe.withKeyValid` -/

section
variable (b : Bfe) (v : Bool)
@[simp] theorem Bfe.withKeyValid_cipher : (b.withKeyValid v).cipher = b.cipher := rfl
@[simp] theorem Bfe.withKeyValid_key : (b.withKeyValid v).key = b.key := rfl
@[simp] theorem Bfe.withKeyValid_keyLen : (b.withKeyValid v).keyLen = b.keyLen := rfl
@[simp] theorem Bfe.withKeyValid_dataL : (b.withKeyValid v).dataL = b.dataL := rfl
@[simp] theorem Bfe.withKeyValid_dataR : (b.withKeyValid v).dataR = b.dataR := rfl
@[simp] theorem Bfe.withKeyValid_keyValid : (b.withKeyValid v).keyValid = v := rfl
@[simp] theorem Bfe.withKeyValid_err : (b.withKeyValid v).err = b.err := rfl
@[simp] theorem Bfe.withKeyValid_errCode : (b.withKeyValid v).errCode = b.errCode := rfl
@[simp] theorem Bfe.withKeyValid_run : (b.withKeyValid v).run = b.run := rfl
end

/-! ## `Bfe.withCipher` -/

section
variable (b : Bfe) (c : CipherState)
@[simp] theorem Bfe.withCipher_cipher : (b.withCipher c).cipher = c := rfl
@[simp] theorem Bfe.withCipher_key : (b.withCipher c).key = b.key := rfl
@[simp] theorem Bfe.withCipher_keyLen : (b.withCipher c).keyLen = b.keyLen := rfl
@[simp] theorem Bfe.withCipher_dataL : (b.withCipher c).dataL = b.dataL := rfl
@[simp] theorem Bfe.withCipher_dataR : (b.withCipher c).dataR = b.dataR := rfl
@[simp] theorem Bfe.withCipher_keyValid : (b.withCipher c).keyValid = b.keyValid := rfl
@[simp] theorem Bfe.withCipher_err : (b.withCipher c).err = b.err := rfl
@[simp] theorem Bfe.withCipher_errCode : (b.withCipher c).errCode = b.errCode := rfl
@[simp] theorem Bfe.withCipher_run : (b.withCipher c).run = b.run := rfl
end

/-! ## `Bfe.withDataL` -/

section
variable (b : Bfe) (v : Word)
@[simp] theorem Bfe.withDataL_cipher : (b.withDataL v).cipher = b.cipher := rfl
@[simp] theorem Bfe.withDataL_key : (b.withDataL v).key = b.key := rfl
@[simp] theorem Bfe.withDataL_keyLen : (b.withDataL v).keyLen = b.keyLen := rfl
@[simp] theorem Bfe.withDataL_dataL : (b.withDataL v).dataL = v := rfl
@[simp] theorem Bfe.withDataL_dataR : (b.withDataL v).dataR = b.dataR := rfl
@[simp] theorem Bfe.withDataL_keyValid : (b.withDataL v).keyValid = b.keyValid := rfl
@[simp] theorem Bfe.withDataL_err : (b.withDataL v).err = b.err := rfl
@[simp] theorem Bfe.withDataL_errCode : (b.withDataL v).errCode = b.errCode := rfl
@[simp] theorem Bfe.withDataL_run : (b.withDataL v).run = b.run := rfl
end

/-! ## `Bfe.withDataR` -/

section
variable (b : Bfe) (v : Word)
@[simp] theorem Bfe.withDataR_cipher : (b.withDataR v).cipher = b.cipher := rfl
@[simp] theorem Bfe.withDataR_key : (b.withDataR v).key = b.key := rfl
@[simp] theorem Bfe.withDataR_keyLen : (b.withDataR v).keyLen = b.keyLen := rfl
@[simp] theorem Bfe.withDataR_dataL : (b.withDataR v).dataL = b.dataL := rfl
@[simp] theorem Bfe.withDataR_dataR : (b.withDataR v).dataR = v := rfl
@[simp] theorem Bfe.withDataR_keyValid : (b.withDataR v).keyValid = b.keyValid := rfl
@[simp] theorem Bfe.withDataR_err : (b.withDataR v).err = b.err := rfl
@[simp] theorem Bfe.withDataR_errCode : (b.withDataR v).errCode = b.errCode := rfl
@[simp] theorem Bfe.withDataR_run : (b.withDataR v).run = b.run := rfl
end

/-! ## `Bfe.withData` -/

section
variable (b : Bfe) (x : Block)
@[simp] theorem Bfe.withData_cipher : (b.withData x).cipher = b.cipher := rfl
@[simp] theorem Bfe.withData_key : (b.withData x).key = b.key := rfl
@[simp] theorem Bfe.withData_keyLen : (b.withData x).keyLen = b.keyLen := rfl
@[simp] theorem Bfe.withData_dataL : (b.withData x).dataL = x.1 := rfl
@[simp] theorem Bfe.withData_dataR : (b.withData x).dataR = x.2 := rfl
@[simp] theorem Bfe.withData_keyValid : (b.withData x).keyValid = b.keyValid := rfl
@[simp] theorem Bfe.withData_err : (b.withData x).err = b.err := rfl
@[simp] theorem Bfe.withData_errCode : (b.withData x).errCode = b.errCode := rfl
@[simp] theorem Bfe.withData_run : (b.withData x).run = b.run := rfl
end

/-! ## `Bfe.withKeyLen` -/

section
variable (b : Bfe) (v : BitVec 8)
@[simp] theorem Bfe.withKeyLen_cipher : (b.withKeyLen v).cipher = b.cipher := rfl
@[simp] theorem Bfe.withKeyLen_key : (b.withKeyLen v).key = b.key := rfl
@[simp] theorem Bfe.withKeyLen_keyLen : (b.withKeyLen v).keyLen = v := rfl
@[simp] theorem Bfe.withKeyLen_dataL : (b.withKeyLen v).dataL = b.dataL := rfl
@[simp] theorem Bfe.withKeyLen_dataR : (b.withKeyLen v).dataR = b.dataR := rfl
@[simp] theorem Bfe.withKeyLen_keyValid : (b.withKeyLen v).keyValid = b.keyValid := rfl
@[simp] theorem Bfe.withKeyLen_err : (b.withKeyLen v).err = b.err := rfl
@[simp] theorem Bfe.withKeyLen_errCode : (b.withKeyLen v).errCode = b.errCode := rfl
@[simp] theorem Bfe.withKeyLen_run : (b.withKeyLen v).run = b.run := rfl
end

/-! ## `Bfe.withKey` -/

section
variable (b : Bfe) (i : Fin 14) (v : Word)
@[simp] theorem Bfe.withKey_cipher : (b.withKey i v).cipher = b.cipher := rfl
@[simp] theorem Bfe.withKey_key : (b.withKey i v).key = b.key.set i.val v := rfl
@[simp] theorem Bfe.withKey_keyLen : (b.withKey i v).keyLen = b.keyLen := rfl
@[simp] theorem Bfe.withKey_dataL : (b.withKey i v).dataL = b.dataL := rfl
@[simp] theorem Bfe.withKey_dataR : (b.withKey i v).dataR = b.dataR := rfl
@[simp] theorem Bfe.withKey_keyValid : (b.withKey i v).keyValid = b.keyValid := rfl
@[simp] theorem Bfe.withKey_err : (b.withKey i v).err = b.err := rfl
@[simp] theorem Bfe.withKey_errCode : (b.withKey i v).errCode = b.errCode := rfl
@[simp] theorem Bfe.withKey_run : (b.withKey i v).run = b.run := rfl
end

/-! ## `Bfe.raise` -/

section
variable (b : Bfe) (c : ErrCause)
@[simp] theorem Bfe.raise_cipher : (b.raise c).cipher = b.cipher := rfl
@[simp] theorem Bfe.raise_key : (b.raise c).key = b.key := rfl
@[simp] theorem Bfe.raise_keyLen : (b.raise c).keyLen = b.keyLen := rfl
@[simp] theorem Bfe.raise_dataL : (b.raise c).dataL = b.dataL := rfl
@[simp] theorem Bfe.raise_dataR : (b.raise c).dataR = b.dataR := rfl
@[simp] theorem Bfe.raise_keyValid : (b.raise c).keyValid = b.keyValid := rfl
@[simp] theorem Bfe.raise_err : (b.raise c).err = true := rfl
@[simp] theorem Bfe.raise_errCode : (b.raise c).errCode = c.code := rfl
@[simp] theorem Bfe.raise_run : (b.raise c).run = b.run := rfl
end

/-! ## `Bfe.wipe` and `Bfe.afterReset` -/

@[simp] theorem Bfe.wipe_cipher (b : Bfe) : b.wipe.cipher = CipherState.zero := rfl
@[simp] theorem Bfe.wipe_key (b : Bfe) : b.wipe.key = Vector.replicate 14 0#32 := rfl
@[simp] theorem Bfe.wipe_keyLen (b : Bfe) : b.wipe.keyLen = 0#8 := rfl
@[simp] theorem Bfe.wipe_dataL (b : Bfe) : b.wipe.dataL = 0#32 := rfl
@[simp] theorem Bfe.wipe_dataR (b : Bfe) : b.wipe.dataR = 0#32 := rfl
@[simp] theorem Bfe.wipe_keyValid (b : Bfe) : b.wipe.keyValid = false := rfl
@[simp] theorem Bfe.wipe_err (b : Bfe) : b.wipe.err = false := rfl
@[simp] theorem Bfe.wipe_errCode (b : Bfe) : b.wipe.errCode = 0#4 := rfl
@[simp] theorem Bfe.wipe_run (b : Bfe) : b.wipe.run = .idle := rfl
@[simp] theorem Bfe.afterReset_cipher (c : CipherState) : (Bfe.afterReset c).cipher = c := rfl
@[simp] theorem Bfe.afterReset_key (c : CipherState) : (Bfe.afterReset c).key = Vector.replicate 14 0#32 := rfl
@[simp] theorem Bfe.afterReset_keyLen (c : CipherState) : (Bfe.afterReset c).keyLen = 0#8 := rfl
@[simp] theorem Bfe.afterReset_dataL (c : CipherState) : (Bfe.afterReset c).dataL = 0#32 := rfl
@[simp] theorem Bfe.afterReset_dataR (c : CipherState) : (Bfe.afterReset c).dataR = 0#32 := rfl
@[simp] theorem Bfe.afterReset_keyValid (c : CipherState) : (Bfe.afterReset c).keyValid = false := rfl
@[simp] theorem Bfe.afterReset_err (c : CipherState) : (Bfe.afterReset c).err = false := rfl
@[simp] theorem Bfe.afterReset_errCode (c : CipherState) : (Bfe.afterReset c).errCode = 0#4 := rfl
@[simp] theorem Bfe.afterReset_run (c : CipherState) : (Bfe.afterReset c).run = .idle := rfl

/-! ## `State.withBfe` -/

@[simp] theorem State.withBfe_bfe (s : State) (b : Bfe): (s.withBfe b).bfe = b := rfl
@[simp] theorem State.withBfe_queue (s : State) (b : Bfe): (s.withBfe b).queue = s.queue := rfl
@[simp] theorem State.withBfe_reads (s : State) (b : Bfe): (s.withBfe b).reads = s.reads := rfl
@[simp] theorem State.withBfe_polls (s : State) (b : Bfe): (s.withBfe b).polls = s.polls := rfl
@[simp] theorem State.withBfe_epoch (s : State) (b : Bfe): (s.withBfe b).epoch = s.epoch := rfl

/-! ## `State.returnRead` -/

@[simp] theorem State.returnRead_bfe (s : State) (v : Word): (s.returnRead v).bfe = s.bfe := rfl
@[simp] theorem State.returnRead_queue (s : State) (v : Word): (s.returnRead v).queue = s.queue := rfl
@[simp] theorem State.returnRead_reads (s : State) (v : Word): (s.returnRead v).reads = s.reads ++ [v] := rfl
@[simp] theorem State.returnRead_polls (s : State) (v : Word): (s.returnRead v).polls = s.polls := rfl
@[simp] theorem State.returnRead_epoch (s : State) (v : Word): (s.returnRead v).epoch = s.epoch := rfl

/-! ## `State.countMove` -/

@[simp] theorem State.countMove_bfe (s : State) : s.countMove.bfe = s.bfe := rfl
@[simp] theorem State.countMove_queue (s : State) : s.countMove.queue = s.queue := rfl
@[simp] theorem State.countMove_reads (s : State) : s.countMove.reads = s.reads := rfl
@[simp] theorem State.countMove_polls (s : State) : s.countMove.polls = if s.bfe.run = .idle then 0 else s.polls + 1 := rfl
@[simp] theorem State.countMove_epoch (s : State) : s.countMove.epoch = s.epoch := rfl

/-! ## `State.take` -/

@[simp] theorem State.take_bfe (s : State) : s.take.bfe = s.bfe := rfl
@[simp] theorem State.take_queue (s : State) : s.take.queue = s.queue.tail := rfl
@[simp] theorem State.take_reads (s : State) : s.take.reads = s.reads := rfl
@[simp] theorem State.take_polls (s : State) : s.take.polls = if s.bfe.run = .idle then 0 else s.polls + 1 := rfl
@[simp] theorem State.take_epoch (s : State) : s.take.epoch = s.epoch := rfl

/-! ## `engineStep` -/

@[simp] theorem engineStep_bfe (s : State) : (engineStep s).bfe = complete s.bfe := rfl
@[simp] theorem engineStep_queue (s : State) : (engineStep s).queue = s.queue := rfl
@[simp] theorem engineStep_reads (s : State) : (engineStep s).reads = s.reads := rfl
@[simp] theorem engineStep_polls (s : State) : (engineStep s).polls = 0 := rfl
@[simp] theorem engineStep_epoch (s : State) : (engineStep s).epoch = s.epoch + 1 := rfl

/-! ## `resetStep` -/

@[simp] theorem resetStep_bfe (s : State) : (resetStep s).bfe = Bfe.afterReset (CipherState.afterReset (s.epoch + 1)) := rfl
@[simp] theorem resetStep_queue (s : State) : (resetStep s).queue = s.queue.tail := rfl
@[simp] theorem resetStep_reads (s : State) : (resetStep s).reads = s.reads := rfl
@[simp] theorem resetStep_polls (s : State) : (resetStep s).polls = 0 := rfl
@[simp] theorem resetStep_epoch (s : State) : (resetStep s).epoch = s.epoch + 1 := rfl

/-! ## `STATUS` and the byte of a word -/

/-- `STATUS[0]` is `BUSY` (10_state.md R19). -/
theorem Bfe.status_bit0 (b : Bfe) : b.status.getLsbD 0 = b.busy := by
  simp only [Bfe.status, BitVec.getLsbD_setWidth, BitVec.getLsbD_append]
  simp

theorem byteOf_toNat (x : Word) (m : Nat) : (byteOf x m).toNat = x.toNat / 2 ^ (24 - 8 * m) % 256 := by
  simp [byteOf, BitVec.extractLsb'_toNat, Nat.shiftRight_eq_div_pow]

/-! ## `P` and `S` -/

section
variable (c : CipherState)

@[simp] theorem CipherState.setP_sbox (j : Fin 18) (v : Word) : (c.setP j v).sbox = c.sbox := rfl
@[simp] theorem CipherState.setS_p (k : Fin 4) (i : Fin 256) (v : Word) : (c.setS k i v).p = c.p := rfl
@[simp] theorem CipherState.entry_setP (j : Fin 18) (v : Word) (k : Fin 4) (i : Fin 256) :
    (c.setP j v).entry k i = c.entry k i := rfl
@[simp] theorem CipherState.subkey_setS (k : Fin 4) (i : Fin 256) (v : Word) (j : Fin 18) :
    (c.setS k i v).subkey j = c.subkey j := rfl

/-- A read of `P` after a write to `P`. -/
theorem CipherState.subkey_setP (j : Fin 18) (v : Word) (j' : Fin 18) :
    (c.setP j v).subkey j' = if j = j' then v else c.subkey j' := by
  simp [CipherState.setP, CipherState.subkey, Vector.getElem_set, Fin.ext_iff]

/-- A read of an S-box after a write to one. -/
theorem CipherState.entry_setS (k : Fin 4) (i : Fin 256) (v : Word) (k' : Fin 4) (i' : Fin 256) :
    (c.setS k i v).entry k' i' = if k = k' ∧ i = i' then v else c.entry k' i' := by
  by_cases hk : k = k'
  · subst hk
    simp [CipherState.setS, CipherState.entry, Vector.getElem_set, Fin.ext_iff]
  · have : k.val ≠ k'.val := fun h => hk (Fin.ext h)
    simp [CipherState.setS, CipherState.entry, this, hk]

@[simp] theorem CipherState.subkey_zero (j : Fin 18) : CipherState.zero.subkey j = 0#32 := by
  simp [CipherState.zero, CipherState.subkey]
@[simp] theorem CipherState.entry_zero (k : Fin 4) (i : Fin 256) : CipherState.zero.entry k i = 0#32 := by
  simp [CipherState.zero, CipherState.entry]

/-- Two cipher states with the same 1042 words are equal. -/
theorem CipherState.ext_words {c d : CipherState} (hp : ∀ j, c.subkey j = d.subkey j)
    (hs : ∀ k i, c.entry k i = d.entry k i) : c = d := by
  cases c; cases d
  congr 1
  · exact Vector.ext fun j hj => hp ⟨j, hj⟩
  · exact Vector.ext fun k hk => Vector.ext fun i hi => hs ⟨k, hk⟩ ⟨i, hi⟩
end

end Sys2Proof.Machine
end

