-- ==== Sys2Proof/Laws/Bus.lean ====
section
/-!
SUPPORT. Everything a bus transaction can do to BFE, said once (`BusEffect`), and the inversion lemmas of the shared
operations that lead to it.
-/

namespace Sys2Proof.Machine

/-! ## The register map (10_state.md R25) -/

/-- The key registers are exactly the addresses 16..29. -/
theorem regAt_key {a : Addr} {i : Fin 14} : regAt a = .key i ↔ a.toNat = 16 + i.val := by
  revert a i
  decide +kernel

/-- The map as a chain of tests (20_memory.md R41, R42). -/
theorem regAt_eq (a : Addr) :
    regAt a =
      if a = 0#6 then .id else if a = 1#6 then .cmd else if a = 2#6 then .status else if a = 3#6 then .keyLen
      else if a = 4#6 then .dataL else if a = 5#6 then .dataR
      else if h : 16 ≤ a.toNat ∧ a.toNat ≤ 29 then .key ⟨a.toNat - 16, by omega⟩ else .reserved := by
  revert a
  decide +kernel

theorem regAt_status {a : Addr} : regAt a = .status ↔ a = 2#6 := by revert a; decide
theorem regAt_cmd {a : Addr} : regAt a = .cmd ↔ a = 1#6 := by revert a; decide

/-! ## The hold (20_memory.md R43) -/

theorem whenIdle_idle {f : Bfe → Bfe} {s : State} (h : s.bfe.run = .idle) : whenIdle f s = .next (s.withBfe (f s.bfe)) :=
  if_pos h

theorem whenIdle_busy {f : Bfe → Bfe} {s : State} (h : s.bfe.run ≠ .idle) : whenIdle f s = .next s := if_neg h

/-- A held transaction changes nothing; one that goes through changes BFE as `f` says and nothing of the host's. -/
theorem whenIdle_cases {f : Bfe → Bfe} {s t : State} (h : whenIdle f s = .next t) :
    (s.bfe.run ≠ .idle ∧ t = s) ∨ (s.bfe.run = .idle ∧ t = s.withBfe (f s.bfe)) := by
  by_cases hi : s.bfe.run = .idle
  · rw [whenIdle_idle hi] at h
    exact .inr ⟨hi, (Host.Outcome.next.inj h).symm⟩
  · rw [whenIdle_busy hi] at h
    exact .inl ⟨hi, (Host.Outcome.next.inj h).symm⟩

/-! ## CMD words (30_encoding.md R72, R75) -/

theorem cmdOpcode_toNat (v : Word) : (cmdOpcode v).toNat = v.toNat % 256 := by
  simp [cmdOpcode, BitVec.extractLsb'_toNat]

theorem cmdRsvd_toNat (v : Word) : (cmdRsvd v).toNat = v.toNat / 256 := by
  have := v.isLt
  simp only [cmdRsvd, BitVec.extractLsb'_toNat, Nat.shiftRight_eq_div_pow]
  omega

/-- The two ways to say that a CMD word is illegal: by its fields, and by the four patterns. -/
theorem illegalCmdWord_iff (v : Word) : IllegalCmdWord v ↔ ¬LegalCmdWord v := by
  have h₁ := cmdOpcode_toNat v
  have h₂ := cmdRsvd_toNat v
  simp only [IllegalCmdWord, LegalCmdWord, cmdInit, cmdEnc, cmdDec, cmdZeroize, ne_eq, ← BitVec.toNat_inj, h₁, h₂,
    BitVec.toNat_ofNat]
  omega

/-- What dispatch does with each word when there is no error (30_encoding.md R73 steps 2 and 3). -/
theorem dispatch_noError {v : Word} {b : Bfe} (h : b.err = false) :
    dispatch v b =
      if v = cmdInit then admitInit b else if v = cmdEnc then admitEnc b else if v = cmdDec then admitDec b
      else if v = cmdZeroize then admitZeroize b else b.raise .illegalCmd := by
  unfold dispatch
  rw [h, if_neg (by simp)]
  by_cases hl : LegalCmdWord v
  · rw [if_neg (by rw [illegalCmdWord_iff]; exact not_not.mpr hl)]
    obtain rfl | rfl | rfl | rfl := hl <;> rfl
  · rw [if_pos ((illegalCmdWord_iff v).mpr hl)]
    simp only [LegalCmdWord, not_or] at hl
    simp [hl]

/-- What dispatch does in the error state (30_encoding.md R73 step 1). -/
theorem dispatch_error {v : Word} {b : Bfe} (h : b.err = true) :
    dispatch v b = if v = cmdZeroize then admitZeroize b else b := by
  unfold dispatch
  rw [h, if_pos rfl]

/-! ## What a transaction can do -/

/-- The effects a bus transaction can have on an idle BFE, and when. -/
inductive BusEffect (b : Bfe) : Bfe → Prop where
  | same : BusEffect b b
  | keyLen (v : BitVec 8) (h : b.keyValid = false) : BusEffect b (b.withKeyLen v)
  | key (i : Fin 14) (v : Word) (h : b.keyValid = false) : BusEffect b (b.withKey i v)
  | dataL (v : Word) : BusEffect b (b.withDataL v)
  | dataR (v : Word) : BusEffect b (b.withDataR v)
  | badLen (he : b.err = false) (hn : ¬LegalKeyLen b.keyLen) : BusEffect b (b.raise .keyLen)
  | noKey (he : b.err = false) (hk : b.keyValid = false) : BusEffect b (b.raise .noKey)
  | illegal (he : b.err = false) : BusEffect b (b.raise .illegalCmd)
  | init (he : b.err = false) (hn : LegalKeyLen b.keyLen) : BusEffect b ((b.withKeyValid false).withRun .init)
  | enc (he : b.err = false) (hk : b.keyValid = true) : BusEffect b (b.withRun .enc)
  | dec (he : b.err = false) (hk : b.keyValid = true) : BusEffect b (b.withRun .dec)
  | zeroize : BusEffect b (b.withRun .zeroize)

theorem admitInit_legal {b : Bfe} (h : LegalKeyLen b.keyLen) :
    admitInit b = (b.withKeyValid false).withRun .init := if_pos h

theorem admitInit_illegal {b : Bfe} (h : ¬LegalKeyLen b.keyLen) : admitInit b = b.raise .keyLen := if_neg h

/-- The part of the effects that an accepted or refused INIT, ENC or DEC can have. -/
theorem admitInit_effect {b : Bfe} (he : b.err = false) : BusEffect b (admitInit b) := by
  unfold admitInit
  split
  · exact .init he ‹_›
  · exact .badLen he ‹_›

theorem admitEnc_effect {b : Bfe} (he : b.err = false) : BusEffect b (admitEnc b) := by
  unfold admitEnc Bfe.needKey
  split
  · exact .enc he ‹_›
  · exact .noKey he (Bool.eq_false_of_not_eq_true ‹¬b.keyValid = true›)

theorem admitDec_effect {b : Bfe} (he : b.err = false) : BusEffect b (admitDec b) := by
  unfold admitDec Bfe.needKey
  split
  · exact .dec he ‹_›
  · exact .noKey he (Bool.eq_false_of_not_eq_true ‹¬b.keyValid = true›)

theorem unlessError_effect {b : Bfe} {f : Bfe → Bfe} (h : b.err = false → BusEffect b (f b)) :
    BusEffect b (b.unlessError f) := by
  unfold Bfe.unlessError
  split
  · exact .same
  · exact h (Bool.eq_false_of_not_eq_true ‹¬b.err = true›)

theorem dispatch_effect (v : Word) (b : Bfe) : BusEffect b (dispatch v b) := by
  unfold dispatch
  split
  · split
    · exact .zeroize
    · exact .same
  · have he : b.err = false := Bool.eq_false_of_not_eq_true ‹¬b.err = true›
    split
    · exact .illegal he
    · split
      · exact admitInit_effect he
      · split
        · exact admitEnc_effect he
        · split
          · exact admitDec_effect he
          · exact .zeroize

/-- Dispatch touches no storage, no data register and no key register (30_encoding.md R73). -/
theorem dispatch_frame (v : Word) (b : Bfe) :
    (dispatch v b).cipher = b.cipher ∧ (dispatch v b).key = b.key ∧ (dispatch v b).keyLen = b.keyLen ∧
      (dispatch v b).dataL = b.dataL ∧ (dispatch v b).dataR = b.dataR := by
  unfold dispatch admitInit admitEnc admitDec admitZeroize Bfe.needKey
  split_ifs <;> exact ⟨rfl, rfl, rfl, rfl, rfl⟩

theorem busWrite_effect (a : Addr) (v : Word) (b : Bfe) : BusEffect b (busWrite a v b) := by
  unfold busWrite Bfe.ifUnlocked
  split
  · exact .same
  · exact dispatch_effect v b
  · exact .same
  · split
    · exact .same
    · exact .keyLen _ (Bool.eq_false_of_not_eq_true ‹¬b.keyValid = true›)
  · exact .dataL v
  · exact .dataR v
  · split
    · exact .same
    · exact .key _ v (Bool.eq_false_of_not_eq_true ‹¬b.keyValid = true›)
  · exact .same

/-! ## `P` and `S` are not on the bus (20_memory.md R40) -/

/-- A bus transaction neither reads nor writes `P` and `S`: it commutes with replacing them (20_memory.md R40). -/
theorem dispatch_withCipher (v : Word) (b : Bfe) (c : CipherState) :
    dispatch v (b.withCipher c) = (dispatch v b).withCipher c := by
  simp only [dispatch, admitInit, admitEnc, admitDec, admitZeroize, Bfe.needKey, apply_ite (Bfe.withCipher · c),
    Bfe.withCipher_err, Bfe.withCipher_keyLen, Bfe.withCipher_keyValid]
  rfl

theorem busWrite_withCipher (a : Addr) (v : Word) (b : Bfe) (c : CipherState) :
    busWrite a v (b.withCipher c) = (busWrite a v b).withCipher c := by
  unfold busWrite Bfe.ifUnlocked
  split
  · rfl
  · exact dispatch_withCipher v b c
  · rfl
  · simp only [apply_ite (Bfe.withCipher · c), Bfe.withCipher_keyValid]; rfl
  · rfl
  · rfl
  · simp only [apply_ite (Bfe.withCipher · c), Bfe.withCipher_keyValid]; rfl
  · rfl

theorem busRead_withCipher (a : Addr) (b : Bfe) (c : CipherState) : busRead a (b.withCipher c) = busRead a b := by
  unfold busRead; split <;> rfl
/-! ## The meanings over the hold -/

theorem exec_wr (a : Addr) (v : Word) (s : State) : exec (.wr a v) s = whenIdle (busWrite a v) s := rfl
theorem exec_init (s : State) : exec .init s = whenIdle (fun b => b.unlessError admitInit) s := rfl
theorem exec_enc (s : State) : exec .enc s = whenIdle (fun b => b.unlessError admitEnc) s := rfl
theorem exec_dec (s : State) : exec .dec s = whenIdle (fun b => b.unlessError admitDec) s := rfl
theorem exec_zeroize (s : State) : exec .zeroize s = whenIdle admitZeroize s := rfl

/-- What one instruction can do: a held one nothing; a read returns a value; any other is one of `BusEffect`, on an idle
BFE. -/
theorem exec_cases {i : Instr} {s t : State} (h : exec i s = .next t) :
    t = s ∨ (∃ a d, i = .rd a d ∧ t = s.returnRead (busRead a s.bfe)) ∨
      (s.bfe.run = .idle ∧ ∃ b, BusEffect s.bfe b ∧ t = s.withBfe b) := by
  cases i with
  | rd a d =>
    simp only [exec, execRd] at h
    split at h
    · exact .inr (.inl ⟨a, d, rfl, (Host.Outcome.next.inj h).symm⟩)
    · exact .inl (Host.Outcome.next.inj h).symm
  | wr a v =>
    obtain ⟨-, rfl⟩ | ⟨hi, rfl⟩ := whenIdle_cases h
    · exact .inl rfl
    · exact .inr (.inr ⟨hi, _, busWrite_effect a v _, rfl⟩)
  | init =>
    simp only [exec, execInit] at h
    obtain ⟨-, rfl⟩ | ⟨hi, rfl⟩ := whenIdle_cases h
    · exact .inl rfl
    · exact .inr (.inr ⟨hi, _, unlessError_effect admitInit_effect, rfl⟩)
  | enc =>
    simp only [exec, execEnc] at h
    obtain ⟨-, rfl⟩ | ⟨hi, rfl⟩ := whenIdle_cases h
    · exact .inl rfl
    · exact .inr (.inr ⟨hi, _, unlessError_effect admitEnc_effect, rfl⟩)
  | dec =>
    simp only [exec, execDec] at h
    obtain ⟨-, rfl⟩ | ⟨hi, rfl⟩ := whenIdle_cases h
    · exact .inl rfl
    · exact .inr (.inr ⟨hi, _, unlessError_effect admitDec_effect, rfl⟩)
  | zeroize =>
    obtain ⟨-, rfl⟩ | ⟨hi, rfl⟩ := whenIdle_cases h
    · exact .inl rfl
    · exact .inr (.inr ⟨hi, _, .zeroize, rfl⟩)

/-- No instruction touches what the host has still to do, nor the model's counters. -/
theorem exec_host {i : Instr} {s t : State} (h : exec i s = .next t) :
    t.queue = s.queue ∧ t.polls = s.polls ∧ t.epoch = s.epoch := by
  obtain rfl | ⟨a, d, -, rfl⟩ | ⟨-, b, -, rfl⟩ := exec_cases h <;> exact ⟨rfl, rfl, rfl⟩

end Sys2Proof.Machine
end

