-- ==== Sys2Proof/Laws/Cipher.lean ====
section
/-!
SUPPORT. The Feistel rounds: their equations, and the one step the inverse law rests on.
-/

namespace Sys2Proof.Machine

@[simp] theorem feistelRounds_nil (c : CipherState) (x : Block) : feistelRounds c [] x = x := rfl

@[simp] theorem feistelRounds_cons (c : CipherState) (k : Word) (ks : List Word) (x : Block) :
    feistelRounds c (k :: ks) x = feistelRounds c ks (feistelRound c x k) := rfl

theorem feistelRounds_append (c : CipherState) (ks ks' : List Word) (x : Block) :
    feistelRounds c (ks ++ ks') x = feistelRounds c ks' (feistelRounds c ks x) := List.foldl_append

/-- `x` with subkey `k` and the round function of the right half mixed into the left: the pair the other direction's
rounds pass through (42_encdec.md R127). -/
def mixedLeft (c : CipherState) (k : Word) (x : Block) : Block := (x.1 ^^^ k ^^^ roundF c x.2, x.2)

/-- One round of the other direction peels one round off (42_encdec.md R127: the identity uses nothing about `F` but that
it is a function). -/
theorem feistelRound_mixedLeft (c : CipherState) (k k' : Word) (x : Block) :
    feistelRound c (mixedLeft c k (feistelRound c x k')) k = mixedLeft c k' x := by
  obtain ⟨l, r⟩ := x
  have h : ∀ a b d : Word, a ^^^ b ^^^ d ^^^ b = a ^^^ d := fun a b d => by
    rw [BitVec.xor_assoc a b d, BitVec.xor_comm b d, ← BitVec.xor_assoc, BitVec.xor_assoc, BitVec.xor_self,
      BitVec.xor_zero]
  simp only [feistelRound, mixedLeft, Prod.mk.injEq, h]
  rw [BitVec.xor_assoc r, BitVec.xor_self, BitVec.xor_zero]
  exact ⟨rfl, rfl⟩

/-- The 16 subkeys of each direction, listed (42_encdec.md R123, R126). -/
theorem encSubkeys_eq (c : CipherState) :
    encSubkeys c = [c.subkey 0, c.subkey 1, c.subkey 2, c.subkey 3, c.subkey 4, c.subkey 5, c.subkey 6, c.subkey 7,
      c.subkey 8, c.subkey 9, c.subkey 10, c.subkey 11, c.subkey 12, c.subkey 13, c.subkey 14, c.subkey 15] := rfl

theorem decSubkeys_eq (c : CipherState) :
    decSubkeys c = [c.subkey 17, c.subkey 16, c.subkey 15, c.subkey 14, c.subkey 13, c.subkey 12, c.subkey 11,
      c.subkey 10, c.subkey 9, c.subkey 8, c.subkey 7, c.subkey 6, c.subkey 5, c.subkey 4, c.subkey 3, c.subkey 2] := rfl

end Sys2Proof.Machine
end

