-- ==== Sys2Proof/Laws/Decode.lean ====
section
/-!
SUPPORT. The fields of a BUS word and of its encoding determine each other (30_encoding.md R71), and what the CMD decoder
answers (R74).
-/

namespace Sys2Proof

section
variable (b : Bool) (a : Addr) (d : Word)

@[simp] theorem busWord_wdata : BusWord.wdata (busWord b a d) = d := by
  apply BitVec.eq_of_getLsbD_eq
  intro i hi
  simp only [BusWord.wdata, busWord, BitVec.getLsbD_extractLsb', BitVec.getLsbD_append, Nat.zero_add]
  simp [hi]

@[simp] theorem busWord_addr : BusWord.addr (busWord b a d) = a := by
  apply BitVec.eq_of_getLsbD_eq
  intro i hi
  simp only [BusWord.addr, busWord, BitVec.getLsbD_extractLsb', BitVec.getLsbD_append]
  simp [hi]

@[simp] theorem busWord_we : BusWord.we (busWord b a d) = b := by
  simp only [BusWord.we, busWord, BitVec.getLsbD_append]
  simp

end

@[simp] theorem busWord_of_fields (w : BusWord) :
    busWord (BusWord.we w) (BusWord.addr w) (BusWord.wdata w) = w := by
  apply BitVec.eq_of_getLsbD_eq
  intro i hi
  simp only [BusWord.wdata, BusWord.addr, BusWord.we, busWord, BitVec.getLsbD_extractLsb', BitVec.getLsbD_append]
  by_cases h32 : i < 32
  · simp [h32]
  · by_cases h38 : i - 32 < 6
    · simp [h32, h38, show 32 + (i - 32) = i by omega]
    · have : i = 38 := by omega
      subst this
      simp

/-- The CMD decoder and the CMD words agree (30_encoding.md R74). -/
theorem decodeCmd_ok {v : Word} {i : Instr} : decodeCmd v = .ok i ↔ encodeCmd i = some v := by
  unfold decodeCmd
  split
  · subst v; cases i <;> simp [encodeCmd] <;> decide
  · split
    · subst v; cases i <;> simp [encodeCmd] <;> decide
    · split
      · subst v; cases i <;> simp [encodeCmd] <;> decide
      · split
        · subst v; cases i <;> simp [encodeCmd] <;> decide
        · cases i <;> simp_all [encodeCmd, eq_comm]

/-- A word the CMD decoder turns down is none of the four (30_encoding.md R75). -/
theorem decodeCmd_error {v : Word} {r : Reject} (h : decodeCmd v = .error r) : ¬LegalCmdWord v := by
  rintro (rfl | rfl | rfl | rfl)
  · exact absurd (h.symm.trans ((decodeCmd_ok (i := .init)).mpr rfl)) (by simp)
  · exact absurd (h.symm.trans ((decodeCmd_ok (i := .enc)).mpr rfl)) (by simp)
  · exact absurd (h.symm.trans ((decodeCmd_ok (i := .dec)).mpr rfl)) (by simp)
  · exact absurd (h.symm.trans ((decodeCmd_ok (i := .zeroize)).mpr rfl)) (by simp)

/-- How a BUS word decodes: a read, a write that issues no command, or the write that issues a command
(30_encoding.md R70). -/
theorem decode_cases (w : BusWord) :
    (BusWord.we w = false ∧ decode w = .rd (BusWord.addr w) (BusWord.wdata w)) ∨
    (BusWord.we w = true ∧ ¬(BusWord.addr w = cmdAddr ∧ LegalCmdWord (BusWord.wdata w)) ∧
      decode w = .wr (BusWord.addr w) (BusWord.wdata w)) ∨
    (BusWord.we w = true ∧ BusWord.addr w = cmdAddr ∧ encodeCmd (decode w) = some (BusWord.wdata w)) := by
  unfold decode decodeBus
  cases hw : BusWord.we w with
  | false => exact .inl ⟨rfl, rfl⟩
  | true =>
    right
    simp only [if_true]
    by_cases ha : BusWord.addr w = cmdAddr
    · rw [if_pos ha]
      cases hd : decodeCmd (BusWord.wdata w) with
      | ok i => exact .inr ⟨trivial, ha, decodeCmd_ok.mp hd⟩
      | error r => exact .inl ⟨trivial, fun h => decodeCmd_error hd h.2, rfl⟩
    · rw [if_neg ha]
      exact .inl ⟨trivial, fun h => ha h.1, rfl⟩

end Sys2Proof
end

