-- ==== Sys2Proof/Laws/Engine.lean ====
section
/-!
SUPPORT. Everything one step can do, said once (`step_cases`).
-/

namespace Sys2Proof.Machine

/-! ## The engine's completion (20_memory.md R50) -/

@[simp] theorem complete_run (b : Bfe) : (complete b).run = .idle := by
  unfold complete
  split
  · assumption
  all_goals rfl

theorem completeInit_eq (b : Bfe) :
    completeInit b = { b with cipher := keySchedule b.keyLen b.key, keyValid := true, run := .idle } := rfl

theorem completeEnc_eq (b : Bfe) :
    completeEnc b = { b with
      dataL := (encBlock b.cipher (b.dataL, b.dataR)).1
      dataR := (encBlock b.cipher (b.dataL, b.dataR)).2
      run := .idle } := rfl

theorem completeDec_eq (b : Bfe) :
    completeDec b = { b with
      dataL := (decBlock b.cipher (b.dataL, b.dataR)).1
      dataR := (decBlock b.cipher (b.dataL, b.dataR)).2
      run := .idle } := rfl

theorem complete_idle {b : Bfe} (h : b.run = .idle) : complete b = b := by simp [complete, h]
theorem complete_init {b : Bfe} (h : b.run = .init) : complete b = completeInit b := by simp [complete, h]
theorem complete_enc {b : Bfe} (h : b.run = .enc) : complete b = completeEnc b := by simp [complete, h]
theorem complete_dec {b : Bfe} (h : b.run = .dec) : complete b = completeDec b := by simp [complete, h]
theorem complete_zeroize {b : Bfe} (h : b.run = .zeroize) : complete b = b.wipe := by
  simp [complete, completeZeroize, h]

/-! ## Who moves (20_memory.md R43, R53) -/

theorem nextAgent_idle {s : State} (h : s.bfe.run = .idle) {a : HostAct} {q : List HostAct} (hq : s.queue = a :: q) :
    nextAgent s = .host a := by simp [nextAgent, hq, h]

theorem nextAgent_over {s : State} (h : s.bfe.run = .idle) (hq : s.queue = []) : nextAgent s = .nobody := by
  simp [nextAgent, hq, h]

theorem nextAgent_alone {s : State} (h : s.bfe.run ≠ .idle) (hq : s.queue = []) : nextAgent s = .engine := by
  simp [nextAgent, hq, h]

theorem nextAgent_held {s : State} (h : s.bfe.run ≠ .idle) {a : HostAct} {q : List HostAct} (hq : s.queue = a :: q)
    (ha : a.neverHeld = false) : nextAgent s = .engine := by simp [nextAgent, hq, h, ha]

theorem nextAgent_contested {s : State} (h : s.bfe.run ≠ .idle) {a : HostAct} {q : List HostAct} (hq : s.queue = a :: q)
    (ha : a.neverHeld = true) :
    nextAgent s = if s.polls < Config.busyReads s.epoch then .host a else .engine := by
  simp [nextAgent, hq, h, ha]

/-! ## One step -/

/-- Every instruction answers a next state (60_exceptions.md R161). -/
theorem exec_total (i : Instr) (s : State) : ∃ t, exec i s = .next t := by
  cases i <;> simp only [exec, execRd, execWr, execInit, execEnc, execDec, execZeroize, whenIdle] <;> split <;>
    exact ⟨_, rfl⟩

/-- Whose turn it can be, and when. -/
theorem nextAgent_cases (s : State) :
    (s.queue = [] ∧ s.bfe.run = .idle ∧ nextAgent s = .nobody) ∨
    (s.bfe.run ≠ .idle ∧ nextAgent s = .engine) ∨
    (∃ a q, s.queue = a :: q ∧ (s.bfe.run = .idle ∨ a.neverHeld = true ∧ s.polls < Config.busyReads s.epoch) ∧
      nextAgent s = .host a) := by
  unfold nextAgent
  split
  · split <;> simp_all
  · split
    · simp_all
    · split <;> simp_all

/-- The read `WAIT` makes (30_encoding.md R80). -/
theorem exec_rd_status (s : State) : exec (.rd 2#6 0#32) s = .next (s.returnRead s.bfe.status) := by
  have h : regAt 2#6 = .status := rfl
  simp [exec, execRd, busRead, h]

@[simp] theorem State.takeWait_bfe (s : State) : s.takeWait.bfe = s.bfe := by
  unfold State.takeWait
  split <;> rfl

/-- What one step can do: nothing (the run is over); the engine's completion; a bus transaction, with the engine idle or a
read of `STATUS`; `WAIT`'s read; a reset. -/
theorem step_cases {s t : State} (h : step s = .next t) :
    (s.queue = [] ∧ s.bfe.run = .idle ∧ t = s) ∨
    (s.bfe.run ≠ .idle ∧ t = engineStep s) ∨
    (∃ w q, s.queue = .bus w :: q ∧ (s.bfe.run = .idle ∨ isStatusRead w = true ∧ s.polls < Config.busyReads s.epoch) ∧
      exec (decode w) s.take = .next t) ∨
    (∃ q, s.queue = .wait :: q ∧ (s.bfe.run = .idle ∨ s.polls < Config.busyReads s.epoch) ∧
      t = s.takeWait.returnRead s.bfe.status) ∨
    (∃ q, s.queue = .rst :: q ∧ t = resetStep s) := by
  unfold step at h
  obtain ⟨hq, hi, ha⟩ | ⟨hi, ha⟩ | ⟨a, q, hq, hc, ha⟩ := nextAgent_cases s <;> rw [ha] at h
  · exact .inl ⟨hq, hi, (Host.Outcome.next.inj h).symm⟩
  · exact .inr (.inl ⟨hi, (Host.Outcome.next.inj h).symm⟩)
  · cases a with
    | bus w => exact .inr (.inr (.inl ⟨w, q, hq, hc, h⟩))
    | wait =>
      simp only [exec_rd_status, State.takeWait_bfe] at h
      exact .inr (.inr (.inr (.inl ⟨q, hq, hc.imp_right And.right, (Host.Outcome.next.inj h).symm⟩)))
    | rst => exact .inr (.inr (.inr (.inr ⟨q, hq, (Host.Outcome.next.inj h).symm⟩)))

theorem step_engine {s : State} (h : nextAgent s = .engine) : step s = .next (engineStep s) := by simp [step, h]

theorem step_bus {s : State} {w : BusWord} (h : nextAgent s = .host (.bus w)) : step s = exec (decode w) s.take := by
  simp [step, h]

theorem step_rst {s : State} (h : nextAgent s = .host .rst) : step s = .next (resetStep s) := by simp [step, h]

theorem step_wait {s : State} (h : nextAgent s = .host .wait) :
    step s = .next (s.takeWait.returnRead s.bfe.status) := by simp [step, h, exec_rd_status]

theorem step_nobody {s : State} (h : nextAgent s = .nobody) : step s = .next s := by simp [step, h]

/-- What one step can do to BFE: nothing, one of a bus transaction's effects, the completion, a reset. -/
theorem step_bfe {s t : State} (h : step s = .next t) :
    t.bfe = s.bfe ∨ (s.bfe.run = .idle ∧ BusEffect s.bfe t.bfe) ∨
      (s.bfe.run ≠ .idle ∧ t.bfe = complete s.bfe) ∨
      (s.queue.head? = some .rst ∧ t.bfe = Bfe.afterReset (CipherState.afterReset (s.epoch + 1))) := by
  obtain ⟨-, -, rfl⟩ | ⟨hi, rfl⟩ | ⟨w, q, -, -, he⟩ | ⟨q, -, -, rfl⟩ | ⟨q, hq, rfl⟩ := step_cases h
  · exact .inl rfl
  · exact .inr (.inr (.inl ⟨hi, rfl⟩))
  · obtain rfl | ⟨a, d, -, rfl⟩ | ⟨hi, b, hb, rfl⟩ := exec_cases he
    · exact .inl rfl
    · exact .inl rfl
    · exact .inr (.inl ⟨hi, hb⟩)
  · exact .inl (State.takeWait_bfe s)
  · exact .inr (.inr (.inr ⟨by simp [hq], rfl⟩))

end Sys2Proof.Machine
end

