-- ==== Sys2Proof/Laws/PerInstr.lean ====
section
/-!
SUPPORT. Statements about every instruction as syntax, one lemma per constructor.
-/

namespace Sys2Proof.Laws.EncodeWe

/-- Bit 38 of the BUS word says whether the transaction writes: 0 for `RD` alone (30_encoding.md R71, R74). -/
def Statement (i : Instr) : Prop := BusWord.we (encode i) = false ↔ ∃ a d, i = .rd a d

theorem rd (a : Addr) (d : Word) : Statement (.rd a d) := by simp [Statement, encode]
theorem wr (a : Addr) (v : Word) : Statement (.wr a v) := by simp [Statement, encode]
theorem init : Statement .init := by simp [Statement, encode]
theorem enc : Statement .enc := by simp [Statement, encode]
theorem dec : Statement .dec := by simp [Statement, encode]
theorem zeroize : Statement .zeroize := by simp [Statement, encode]

end Sys2Proof.Laws.EncodeWe
end

