-- ==== Sys2Proof/Tests/Slice0.lean ====
section
/-!
SUPPORT. Tests, each a named theorem. Every expected value is the spec's: the source stands beside each. The last part
gives a witness for the hypotheses of each statement of Certificates/Slice0/Obligations.lean.
-/

namespace Sys2Proof.Tests

open Sys2Proof.Machine

/-! ## Helpers -/

/-- BFE right after a completed ZEROIZE (43_control.md R141). -/
def blank : Bfe := Bfe.afterReset CipherState.zero

/-- BFE `b`, and a host with the acts `q` still to do. -/
def at_ (b : Bfe) (q : List HostAct) : State := { bfe := b, queue := q, reads := [], polls := 0, epoch := 0 }

/-- One part of the next state; nothing if there is none. -/
def part {α : Type} (f : State → α) (o : Host.Outcome State Fault Refusal) : Option α :=
  match o with
  | .next t => some (f t)
  | .fault _ => none
  | .refused _ => none

theorem of_part {α : Type} {f : State → α} {o : Host.Outcome State Fault Refusal} {x : α} (h : part f o = some x) :
    ∃ t, o = .next t ∧ f t = x := by
  cases o with
  | next t => exact ⟨t, rfl, Option.some.inj h⟩
  | fault _ => exact nomatch h
  | refused _ => exact nomatch h

/-- `STATUS` as a number. -/
def status (s : State) : Nat := s.bfe.status.toNat

/-- The 5-byte key `01 23 45 67 89` in `KEY0`, `KEY1`; the last three bytes of `KEY1` are not the key's
(95_test_vectors.md PR2). -/
def fiveByteKey : Vector Word 14 := (Vector.replicate 14 0#32).set 0 0x01234567#32 |>.set 1 0x89ABCDEF#32

/-! ## WellFormed: the one check, with terms it refuses (30_encoding.md R70) -/

theorem test_wf_refuses_init_write : (Instr.wr 1#6 1#32).wf = false := by decide
theorem test_wf_refuses_enc_write : (Instr.wr 1#6 2#32).wf = false := by decide
theorem test_wf_refuses_dec_write : (Instr.wr 1#6 3#32).wf = false := by decide
theorem test_wf_refuses_zeroize_write : (Instr.wr 1#6 4#32).wf = false := by decide
theorem test_wf_accepts_the_rest :
    (Instr.wr 1#6 0#32).wf = true ∧ (Instr.wr 1#6 5#32).wf = true ∧ (Instr.wr 1#6 0x101#32).wf = true ∧
    (Instr.wr 2#6 1#32).wf = true ∧ (Instr.rd 1#6 1#32).wf = true ∧ Instr.init.wf = true := by decide

/-! ## Decoding: words written out from the spec's encodings (30_encoding.md R71, R72, R74) -/

/-- `{0, 000010, 0}`: `RD STATUS`. -/
theorem test_decode_rd : decode 0b0_000010_00000000000000000000000000000000#39 = .rd 2#6 0#32 := by decide
/-- `{1, 000100, 0x01234567}`: `WR DATA_L, 0x01234567`. -/
theorem test_decode_wr : decode 0b1_000100_00000001001000110100010101100111#39 = .wr 4#6 0x01234567#32 := by decide
/-- `{1, 000001, 0x00000001}`. -/
theorem test_decode_init : decode 0b1_000001_00000000000000000000000000000001#39 = .init := by decide
theorem test_decode_enc : decode 0b1_000001_00000000000000000000000000000010#39 = .enc := by decide
theorem test_decode_dec : decode 0b1_000001_00000000000000000000000000000011#39 = .dec := by decide
theorem test_decode_zeroize : decode 0b1_000001_00000000000000000000000000000100#39 = .zeroize := by decide
/-- A reserved bit set, and the write of a command's word elsewhere: no commands (R75). -/
theorem test_decode_no_command :
    decode 0b1_000001_10000000000000000000000000000010#39 = .wr 1#6 0x80000002#32 ∧
    decode 0b1_100001_00000000000000000000000000000001#39 = .wr 33#6 1#32 := by decide
/-- BUS words of 95_test_vectors.md PR1 and PR4: `RD KEY0`, `WR KEY13`. -/
theorem test_decode_listing :
    decodeListing 0x1000000000 = .ok (.rd 16#6 0#32) ∧ decodeListing 0x5D35363738 = .ok (.wr 29#6 0x35363738#32) :=
  ⟨rfl, rfl⟩
/-- Illegal CMD words and numbers that are no BUS word are turned down by name (R75, R71). -/
theorem test_decode_rejects :
    decodeCmd 0#32 = .error .illegalCmdWord ∧ decodeCmd 0x104#32 = .error .illegalCmdWord ∧
    decodeListing 0x8000000000 = .error .widerThanBusWord ∧ decodeSized 16 1 = .error .noSuchFormat :=
  ⟨rfl, rfl, rfl, rfl⟩
theorem test_encode_words :
    (encode (.wr 4#6 0x01234567#32)).toNat = 0x4401234567 ∧ (encode (.rd 2#6 0#32)).toNat = 0x0200000000 ∧
    (encode .init).toNat = 0x4100000001 ∧ (encode .zeroize).toNat = 0x4100000004 := by decide

/-! ## The constants (41_init_constants.md, the checks under each table) -/

/-- Exclusive-or, sum, first and last of a table. -/
def checks (t : List Word) : Word × Word × Option Word × Option Word :=
  (t.foldl (· ^^^ ·) 0#32, t.foldl (· + ·) 0#32, t.head?, t.getLast?)

theorem test_pInit : checks pInit.toList = (0xB73AD7EA#32, 0x8E4D14CC#32, some 0x243F6A88#32, some 0x8979FB1B#32) := by
  decide +kernel
theorem test_sInit0 : checks sInit0.toList = (0x4EB4DB7F#32, 0x4B745115#32, some 0xD1310BA6#32, some 0x6E85076A#32) := by
  decide +kernel
theorem test_sInit1 : checks sInit1.toList = (0xC727E122#32, 0x72FF37B2#32, some 0x4B7A70E9#32, some 0xDB83ADF7#32) := by
  decide +kernel
theorem test_sInit2 : checks sInit2.toList = (0x462A5D01#32, 0x2AC02B91#32, some 0xE93D5A68#32, some 0x406000E0#32) := by
  decide +kernel
theorem test_sInit3 : checks sInit3.toList = (0x1779E2BC#32, 0xF43E3A88#32, some 0x3A39CE37#32, some 0x3AC372E6#32) := by
  decide +kernel

/-! ## The cipher core (95_test_vectors.md V23, V26, V30) -/

/-- `F` on the constant S-boxes; both sums wrap (V30). -/
theorem test_roundF :
    roundF CipherState.constants 0x00000000#32 = 0x2FCFF51E#32 ∧
    roundF CipherState.constants 0x01020304#32 = 0x3CEDFF8C#32 ∧
    roundF CipherState.constants 0xFFFFFFFF#32 = 0x452C2867#32 ∧
    roundF CipherState.constants 0x243F6A88#32 = 0xDB2F9C4E#32 := by decide +kernel

/-- The first encryption of the key schedule of the all-zero key (V26). -/
theorem test_encBlock : encBlock CipherState.constants (0#32, 0#32) = (0x706D9FCC#32, 0x1792D23A#32) := by decide +kernel

/-- The same backwards (42_encdec.md R127). -/
theorem test_decBlock : decBlock CipherState.constants (0x706D9FCC#32, 0x1792D23A#32) = (0#32, 0#32) := by decide +kernel

/-- The key words of a 5-byte key straddle the wrap, and the bytes beyond the length are not read (V23, 40_init.md R99). -/
theorem test_keyWord :
    (List.range 6).map (keyWord 5 fiveByteKey) =
      [0x01234567#32, 0x89012345#32, 0x67890123#32, 0x45678901#32, 0x23456789#32, 0x01234567#32] := by decide +kernel

/-- `P` after step 2 for that key (V23). -/
theorem test_mixKey :
    (mixKey 5 fiveByteKey CipherState.constants).subkey 0 = 0x251C2FEF#32 ∧
    (mixKey 5 fiveByteKey CipherState.constants).subkey 17 = 0xEEF0FA38#32 := by decide +kernel

/-! ## One instruction, one step -/

/-- `RD` of each kind of address (20_memory.md R41): `ID`, `CMD`, `STATUS`, `KEYLEN`, `DATA_L`, `DATA_R`, reserved, `KEY0`. -/
theorem test_rd :
    ([0, 1, 2, 3, 4, 5, 6, 16].map fun a => part (·.reads.map (·.toNat))
      (exec (.rd (BitVec.ofNat 6 a) 0#32)
        (at_ { blank with keyLen := 5#8, dataL := 7#32, dataR := 8#32, keyValid := true, key := fiveByteKey } []))) =
    [some [0x42465348], some [0], some [2], some [5], some [7], some [8], some [0], some [0]] := by decide
/-- A read met by a running command is held (R43). -/
theorem test_rd_held : part (·.reads) (exec (.rd 4#6 0#32) (at_ { blank with run := .enc } [])) = some [] := by decide

/-- Bits 31..8 of a `KEYLEN` write are discarded (V71), and `KEY13` is at address 29. -/
theorem test_wr :
    part (·.bfe.keyLen.toNat) (exec (.wr 3#6 0xFFFFFF08#32) (at_ blank [])) = some 8 ∧
    part (·.bfe.key[13].toNat) (exec (.wr 29#6 0x35363738#32) (at_ blank [])) = some 0x35363738 := by decide
/-- Illegal CMD words (V72), and the key lock (10_state.md R16). -/
theorem test_wr_refused :
    part status (exec (.wr 1#6 0x80000002#32) (at_ blank [])) = some 0x304 ∧
    part status (exec (.wr 1#6 0#32) (at_ { blank with keyValid := true } [])) = some 0x306 ∧
    part (·.bfe.keyLen.toNat) (exec (.wr 3#6 0x38#32) (at_ { blank with keyValid := true, keyLen := 5#8 } [])) =
      some 5 := by decide

/-- The bounds of the key length (V71): 3 and 57 are refused, 4 and 56 accepted; `STATUS` while INIT runs (V70). -/
theorem test_init :
    ([3, 4, 56, 57].map fun n => part status (exec .init (at_ { blank with keyLen := BitVec.ofNat 8 n } []))) =
      [some 0x104, some 1, some 1, some 0x104] := by decide
/-- Issued again under a completed schedule, INIT clears `KEY_VALID` (40_init.md R96). -/
theorem test_init_again :
    part status (exec .init (at_ { blank with keyLen := 8#8, keyValid := true } [])) = some 1 := by decide

/-- `STATUS` while ENC runs, and after a refusal (V70). -/
theorem test_enc :
    part status (exec .enc (at_ { blank with keyValid := true } [])) = some 3 ∧
    part status (exec .enc (at_ blank [])) = some 0x204 := by decide
/-- The completion of ENC: with the constants as cipher state, the encryption of V26. -/
theorem test_enc_completes :
    (let t := engineStep (at_ { blank with cipher := CipherState.constants, keyValid := true, run := .enc } [])
     (t.bfe.dataL, t.bfe.dataR)) = (0x706D9FCC#32, 0x1792D23A#32) := by decide +kernel

theorem test_dec :
    part status (exec .dec (at_ { blank with keyValid := true } [])) = some 3 ∧
    part status (exec .dec (at_ blank [])) = some 0x204 := by decide
theorem test_dec_completes :
    (let t := engineStep (at_ { blank with
        cipher := CipherState.constants, dataL := 0x706D9FCC#32, dataR := 0x1792D23A#32, keyValid := true, run := .dec } [])
     (t.bfe.dataL, t.bfe.dataR)) = (0#32, 0#32) := by decide +kernel

/-- `STATUS` while ZEROIZE runs from an error state with a valid key (V70), and after it. -/
theorem test_zeroize :
    part status (exec .zeroize (at_ { blank with keyValid := true, err := true, errCode := 3#4 } [])) = some 0x307 := by
  decide
theorem test_zeroize_completes :
    (let t := engineStep (at_ { blank with
        cipher := CipherState.constants, dataL := 0x4EF99745#32, keyValid := true, err := true, errCode := 3#4,
        run := .zeroize } [])
     (status t, t.bfe.dataL, t.bfe.cipher.subkey 17, t.bfe.cipher.entry 3 255)) = (0, 0#32, 0#32, 0#32) := by decide +kernel

/-- In the error state nothing but ZEROIZE is accepted (V72). -/
theorem test_error_state :
    part status (exec .init (at_ { blank with keyLen := 8#8, err := true, errCode := 3#4 } [])) = some 0x304 ∧
    part status (exec (.wr 1#6 0x104#32) (at_ { blank with err := true, errCode := 3#4 } [])) = some 0x304 := by decide

/-! ## The listing notation (30_encoding.md R80; 95_test_vectors.md PR1) -/

theorem test_ldKey :
    (ldKey [0x01#8, 0x23#8, 0x45#8, 0x67#8, 0x89#8]).map (fun i => (encode i).toNat) =
      [0x4300000005, 0x5001234567, 0x5189000000] := by decide
theorem test_ldBlk_rdBlk :
    (ldBlk 0x0123456789ABCDEF#64 ++ rdBlk).map (fun i => (encode i).toNat) =
      [0x4401234567, 0x4589ABCDEF, 0x0400000000, 0x0500000000] := by decide

/-! ## Reset, and the placing of an instruction -/

theorem test_reset_status : status State.reset = 0 := by decide
/-- The first step after reset runs the word placed for it: ENC is refused, there is no key (V72). -/
theorem test_placed_word :
    part status (step (State.reset.withFetchWord 32 2)) = some 0x204 ∧
    part (·.bfe.dataL.toNat) (step (State.reset.withFetchWord 40 0x44CAFEF00D)) = some 0xCAFEF00D := by decide

/-! ## Witnesses: for each statement with hypotheses, states and operands that meet all of them -/

/-- A BFE whose `P`, `S` are the schedule of its key: five bytes, a completed INIT. -/
def keyed : Bfe :=
  { blank with key := fiveByteKey, keyLen := 5#8, cipher := keySchedule 5#8 fiveByteKey, keyValid := true }

/-- The error state with code `c`. -/
def failed (c : BitVec 4) : Bfe := { blank with err := true, errCode := c }

/-- A write to `DATA_L`, a read of `STATUS`, and the commands, as the host issues them. -/
def wrData : HostAct := .bus (encode (.wr 4#6 0x01234567#32))
def rdStatus : HostAct := .bus (encode (.rd 2#6 0#32))
def issue (i : Instr) : HostAct := .bus (encode i)

/-- Every form, at the edges of the one check. -/
theorem witness_DecodeOfEncode :
    (Instr.rd 63#6 0xFFFFFFFF#32).wf = true ∧ (Instr.wr 0#6 1#32).wf = true ∧ (Instr.wr 1#6 0#32).wf = true ∧
    (Instr.wr 1#6 5#32).wf = true ∧ Instr.init.wf = true ∧ Instr.enc.wf = true ∧ Instr.dec.wf = true ∧
    Instr.zeroize.wf = true := by decide

/-- Both sides of the decoder's answer, at 0, 1, 4, 5 and with the lowest and the highest reserved bit set. -/
theorem witness_CmdDecoderAcceptsFour :
    encodeCmd .init = some 1#32 ∧ encodeCmd .zeroize = some 4#32 ∧
    (0#32).toNat % 256 < 1 ∧ 4 < (5#32).toNat % 256 ∧ (0x101#32).toNat / 256 ≠ 0 ∧ (0x80000002#32).toNat / 256 ≠ 0 := by
  decide

theorem witness_PlacedTableWordRuns :
    State.reset.bfe.run = .idle ∧ decodeTableWord 32 1 = some .init ∧
    decodeTableWord 39 0x4401234567 = some (.wr 4#6 0x01234567#32) ∧
    decodeTableWord 40 0x0200000000 = some (.rd 2#6 0#32) := by decide

theorem witness_StepRunsIssuedInstruction :
    (at_ blank [wrData, rdStatus]).queue = .bus (encode (.wr 4#6 0x01234567#32)) :: [rdStatus] ∧
    (at_ blank [wrData, rdStatus]).bfe.run = .idle := by decide

theorem witness_BusyHoldsTransactions :
    (at_ { keyed with run := .enc } [wrData]).bfe.run ≠ .idle ∧
    (at_ { keyed with run := .enc } [wrData]).queue = .bus (encode (.wr 4#6 0x01234567#32)) :: [] ∧
    (∀ d, decode (encode (.wr 4#6 0x01234567#32)) ≠ .rd 2#6 d) ∧ (∀ d, Instr.enc ≠ .rd 2#6 d) ∧
    (∀ d, Instr.rd 4#6 0#32 ≠ .rd 2#6 d) := by
  refine ⟨by decide, by decide, fun d => ?_, fun d => ?_, fun d => ?_⟩
  · rw [show decode (encode (.wr 4#6 0x01234567#32)) = .wr 4#6 0x01234567#32 by decide]
    exact fun h => Instr.noConfusion h
  · exact fun h => Instr.noConfusion h
  · exact fun h => absurd (Instr.rd.inj h).1 (by decide)

/-- A read that goes through, one of `STATUS` while a command runs, and a held write. -/
theorem witness_PortsShowTheTransaction :
    (∃ t, exec (decode 0x0400000000#39) (at_ blank []) = .next t) ∧
    (∃ t, exec (decode 0x0200000000#39) (at_ { keyed with run := .enc } []) = .next t) ∧
    (∃ t, exec (decode 0x4401234567#39) (at_ { keyed with run := .enc } []) = .next t) ∧
    ready { keyed with run := .enc } 0x4401234567#39 = false ∧ ready { keyed with run := .enc } 0x0200000000#39 = true :=
  ⟨⟨_, rfl⟩, ⟨_, rfl⟩, ⟨_, rfl⟩, rfl, rfl⟩

theorem witness_StatusReadRacesCompletion :
    (at_ { keyed with run := .dec } [rdStatus]).bfe.run ≠ .idle ∧
    (at_ { keyed with run := .dec } [rdStatus]).queue = .bus (encode (.rd 2#6 0#32)) :: [] ∧
    decode (encode (.rd 2#6 0#32)) = .rd 2#6 0#32 := by decide

/-- Idle with nothing to do; each command in flight, the host with nothing to do or held. -/
theorem witness_EngineCompletesCommand :
    (at_ blank []).bfe.run = .idle ∧ (at_ blank []).queue = [] ∧
    (at_ { blank with keyLen := 5#8, run := .init } []).bfe.run = .init ∧
    (at_ { keyed with run := .enc } []).bfe.run = .enc ∧ (at_ { keyed with run := .dec } []).bfe.run = .dec ∧
    (at_ { failed 2#4 with run := .zeroize } [wrData]).bfe.run = .zeroize ∧
    (∀ a q, (at_ keyed []).queue = a :: q → a.neverHeld = false) ∧
    (∀ a q, (at_ { failed 2#4 with run := .zeroize } [wrData]).queue = a :: q → a.neverHeld = false) := by
  refine ⟨by decide, by decide, by decide, by decide, by decide, by decide, fun a q h => ?_, fun a q h => ?_⟩
  · exact nomatch h
  · obtain ⟨rfl, rfl⟩ := List.cons.inj h
    decide

theorem witness_EveryCommandCompletes :
    (at_ { keyed with run := .enc } [rdStatus, wrData]).bfe.run ≠ .idle ∧
    ∀ a ∈ (at_ { keyed with run := .enc } [rdStatus, wrData]).queue, a ≠ .rst := by decide

/-- Each of the four commands, accepted. -/
theorem witness_BusyOnlyByAcceptedCommand :
    (∃ t, step (at_ { blank with keyLen := 4#8 } [issue .init]) = .next t ∧ t.bfe.run = .init) ∧
    (∃ t, step (at_ keyed [issue .enc]) = .next t ∧ t.bfe.run = .enc) ∧
    (∃ t, step (at_ keyed [issue .dec]) = .next t ∧ t.bfe.run = .dec) ∧
    ∃ t, step (at_ (failed 3#4) [issue .zeroize]) = .next t ∧ t.bfe.run = .zeroize :=
  ⟨⟨_, rfl, rfl⟩, ⟨_, rfl, rfl⟩, ⟨_, rfl, rfl⟩, ⟨_, rfl, rfl⟩⟩

theorem witness_WaitEndsIdle :
    (at_ { keyed with run := .enc } [.wait, wrData]).queue = .wait :: [wrData] ∧
    (at_ keyed [.wait]).queue = .wait :: [] := by decide

/-- Idle; busy at `STATUS`; busy at the addresses on both sides of it and at the ends of the map. -/
theorem witness_ReadReturnsMappedValue :
    (at_ keyed []).bfe.run = .idle ∧ (at_ { keyed with run := .enc } []).bfe.run ≠ .idle ∧
    ∀ a ∈ [0#6, 1#6, 3#6, 4#6, 5#6, 6#6, 15#6, 16#6, 29#6, 30#6, 63#6], a ≠ 2#6 := by decide

theorem witness_ReadsRevealNoKey :
    ∃ t t', exec (.rd 16#6 0#32) (at_ keyed []) = .next t ∧
      exec (.rd 16#6 0#32) ((at_ keyed []).withBfe
        { (at_ keyed []).bfe with cipher := CipherState.zero, key := Vector.replicate 14 0#32 }) = .next t' :=
  ⟨_, _, rfl, rfl⟩

/-- Both clauses; the key registers' first and last address, and their neighbours, fall under one branch each. -/
theorem witness_WriteEffectByAddress :
    (at_ blank []).bfe.run = .idle ∧ (at_ { keyed with run := .enc } []).bfe.run ≠ .idle ∧
    (16 ≤ (16#6).toNat ∧ (16#6).toNat ≤ 29) ∧ (16 ≤ (29#6).toNat ∧ (29#6).toNat ≤ 29) ∧
    ¬(16 ≤ (15#6).toNat ∧ (15#6).toNat ≤ 29) ∧ ¬(16 ≤ (30#6).toNat ∧ (30#6).toNat ≤ 29) ∧
    ¬(16 ≤ (6#6).toNat ∧ (6#6).toNat ≤ 29) ∧ ¬(16 ≤ (63#6).toNat ∧ (63#6).toNat ≤ 29) := by decide

/-- Idle, with and without error, with and without key, at the edges of the legal length. -/
theorem witness_CommandDispatch :
    (at_ blank []).bfe.run = .idle ∧ (at_ (failed 1#4) []).bfe.run = .idle ∧ (at_ keyed []).bfe.run = .idle ∧
    (at_ { blank with keyLen := 3#8 } []).bfe.run = .idle ∧ (at_ { blank with keyLen := 57#8 } []).bfe.run = .idle := by
  decide

theorem witness_KeyWriteSetsItsFourBytes : (at_ blank []).bfe.run = .idle ∧ (at_ blank []).bfe.keyValid = false := by
  decide

/-- Both clauses: `KEYLEN`, the first and the last key register; a step under a completed schedule, and one of INIT. -/
theorem witness_KeyLockHolds :
    (at_ keyed []).bfe.keyValid = true ∧ (3#6 = 3#6 ∨ 16 ≤ (3#6).toNat ∧ (3#6).toNat ≤ 29) ∧
    (16#6 = 3#6 ∨ 16 ≤ (16#6).toNat ∧ (16#6).toNat ≤ 29) ∧ (29#6 = 3#6 ∨ 16 ≤ (29#6).toNat ∧ (29#6).toNat ≤ 29) ∧
    (∃ t, step (at_ keyed [.bus (encode (.wr 16#6 0xFFFFFFFF#32))]) = .next t) ∧
    (∃ t, step (at_ { blank with keyLen := 5#8, run := .init } []) = .next t) ∧
    (at_ { blank with keyLen := 5#8, run := .init } []).bfe.run = .init ∧ keyed.run ≠ .zeroize ∧
    (at_ keyed [.bus (encode (.wr 16#6 0xFFFFFFFF#32))]).queue.head? ≠ some .rst ∧
    (at_ { blank with keyLen := 5#8, run := .init } []).queue.head? ≠ some .rst :=
  ⟨rfl, by decide, by decide, by decide, ⟨_, rfl⟩, ⟨_, rfl⟩, rfl, by decide, by decide, by decide⟩

/-- A write of each kind that takes effect, and one held. -/
theorem witness_WriteFrame :
    (∃ t, exec (.wr 1#6 0#32) (at_ blank []) = .next t) ∧ (∃ t, exec (.wr 3#6 5#32) (at_ blank []) = .next t) ∧
    (∃ t, exec (.wr 4#6 7#32) (at_ blank []) = .next t) ∧ (∃ t, exec (.wr 5#6 7#32) (at_ blank []) = .next t) ∧
    (∃ t, exec (.wr 29#6 7#32) (at_ blank []) = .next t) ∧
    ∃ t, exec (.wr 4#6 7#32) (at_ { keyed with run := .enc } []) = .next t :=
  ⟨⟨_, rfl⟩, ⟨_, rfl⟩, ⟨_, rfl⟩, ⟨_, rfl⟩, ⟨_, rfl⟩, ⟨_, rfl⟩⟩

/-- Each command, with an effect; the error flags change in the second. -/
theorem witness_CommandIssueFrame :
    (∃ t, exec .init (at_ { blank with keyLen := 4#8 } []) = .next t) ∧
    (∃ t, exec .enc (at_ blank []) = .next t ∧ t.bfe.err ≠ (at_ blank []).bfe.err) ∧
    (∃ t, exec .dec (at_ keyed []) = .next t) ∧ ∃ t, exec .zeroize (at_ (failed 1#4) []) = .next t :=
  ⟨⟨_, rfl⟩, ⟨_, rfl, by decide⟩, ⟨_, rfl⟩, ⟨_, rfl⟩⟩

/-- The shortest and the longest legal key. -/
theorem witness_InitBuildsCipherState :
    (at_ { blank with keyLen := 4#8 } []).bfe.run = .idle ∧ (at_ { blank with keyLen := 4#8 } []).bfe.err = false ∧
    4 ≤ (4#8).toNat ∧ (4#8).toNat ≤ 56 ∧ 4 ≤ (56#8).toNat ∧ (56#8).toNat ≤ 56 := by decide

/-- Both clauses at their edges: 3 and 57, 0 and 255; 4 and 56. No length falls under both. -/
theorem witness_InitChecksKeyLength :
    (at_ { blank with keyLen := 3#8 } []).bfe.run = .idle ∧ (at_ { blank with keyLen := 3#8 } []).bfe.err = false ∧
    ((3#8).toNat < 4 ∨ 56 < (3#8).toNat) ∧ ((57#8).toNat < 4 ∨ 56 < (57#8).toNat) ∧
    ((255#8).toNat < 4 ∨ 56 < (255#8).toNat) ∧ (4 ≤ (4#8).toNat ∧ (4#8).toNat ≤ 56) ∧
    (4 ≤ (56#8).toNat ∧ (56#8).toNat ≤ 56) ∧
    ∀ n : BitVec 8, ¬((n.toNat < 4 ∨ 56 < n.toNat) ∧ (4 ≤ n.toNat ∧ n.toNat ≤ 56)) := by decide

/-- Two key buffers that differ beyond the fifth byte. -/
theorem witness_ScheduleReadsOnlyTheKey :
    0 < (5#8).toNat ∧
    (∀ i, i < (5#8).toNat → keyByte fiveByteKey i = keyByte (fiveByteKey.set 1 0x89000000#32) i) ∧
    fiveByteKey ≠ fiveByteKey.set 1 0x89000000#32 := by decide +kernel

/-- A 4-byte key, and it twice over as an 8-byte key (40_init.md R99). -/
theorem witness_EqualExpansionsEqualSchedules :
    let k : Vector Word 14 := (Vector.replicate 14 0#32).set 0 0x01234567#32
    let k' : Vector Word 14 := k.set 1 0x01234567#32
    (∀ i, i < 72 → keyByte k (i % (4#8).toNat) = keyByte k' (i % (8#8).toNat)) ∧ k ≠ k' := by decide +kernel

theorem witness_RoundFunctionValue :
    (0x01FF0380#32).toNat = (1 : Fin 256).val * 2 ^ 24 + (255 : Fin 256).val * 2 ^ 16 + (3 : Fin 256).val * 2 ^ 8 +
      (128 : Fin 256).val := by decide

/-- The recurrence has a solution for every cipher state and block. -/
def halves (c : CipherState) (x : Block) : Nat → Block
  | 0 => x
  | i + 1 =>
    let r := (halves c x i).1 ^^^ (if h : i < 18 then c.subkey ⟨i, h⟩ else 0#32)
    ((halves c x i).2 ^^^ roundF c r, r)

theorem witness_EncBlockRecurrence (c : CipherState) (x : Block) :
    ∀ i : Fin 16, (halves c x (i.val + 1)).2 = (halves c x i.val).1 ^^^ c.subkey ⟨i.val, by omega⟩ ∧
      (halves c x (i.val + 1)).1 = (halves c x i.val).2 ^^^ roundF c (halves c x (i.val + 1)).2 := by
  intro i
  have h : i.val < 18 := by omega
  exact ⟨by simp [halves, h], rfl⟩

theorem witness_DecBlockIsReversedEncBlock :
    let c := CipherState.constants
    let c' : CipherState := { c with p := Vector.ofFn fun j => c.subkey ⟨17 - j.val, by omega⟩ }
    (∀ j : Fin 18, c'.subkey j = c.subkey ⟨17 - j.val, by omega⟩) ∧ c'.sbox = c.sbox :=
  ⟨fun j => by simp [CipherState.subkey], rfl⟩

/-- The premises of `EncEncryptsInPlace`, `DecDecryptsInPlace`, `EncThenDecRestoresBlock`, and both clauses of
`EncDecNeedKey`. -/
theorem witness_EncDecNeedKey :
    (at_ keyed []).bfe.run = .idle ∧ (at_ keyed []).bfe.err = false ∧ (at_ keyed []).bfe.keyValid = true ∧
    (at_ blank []).bfe.run = .idle ∧ (at_ blank []).bfe.err = false ∧ (at_ blank []).bfe.keyValid = false :=
  ⟨rfl, rfl, rfl, rfl, rfl, rfl⟩
theorem witness_EncEncryptsInPlace :
    (at_ keyed []).bfe.run = .idle ∧ (at_ keyed []).bfe.err = false ∧ (at_ keyed []).bfe.keyValid = true :=
  ⟨rfl, rfl, rfl⟩
theorem witness_DecDecryptsInPlace :
    (at_ keyed []).bfe.run = .idle ∧ (at_ keyed []).bfe.err = false ∧ (at_ keyed []).bfe.keyValid = true :=
  ⟨rfl, rfl, rfl⟩
theorem witness_EncThenDecRestoresBlock :
    (at_ keyed []).bfe.run = .idle ∧ (at_ keyed []).bfe.err = false ∧ (at_ keyed []).bfe.keyValid = true :=
  ⟨rfl, rfl, rfl⟩

/-- The completion of a ZEROIZE over the constants. -/
theorem witness_CipherStateReadOnly :
    ∃ t, step (at_ { blank with cipher := CipherState.constants, run := .zeroize } []) = .next t ∧
      t.bfe.cipher ≠ (at_ { blank with cipher := CipherState.constants, run := .zeroize } []).bfe.cipher := by
  refine ⟨_, rfl, fun h => ?_⟩
  have h0 : CipherState.zero.subkey 0 = CipherState.constants.subkey 0 := congrArg (·.subkey 0) h
  exact absurd h0 (by decide +kernel)

theorem witness_ZeroizeClearsEverything : (at_ keyed []).bfe.run = .idle ∧ (at_ (failed 3#4) []).bfe.run = .idle :=
  ⟨rfl, rfl⟩

/-- Both clauses; words at each edge of "illegal". -/
theorem witness_IllegalCommandLatched :
    (at_ blank []).bfe.run = .idle ∧ (at_ blank []).bfe.err = false ∧ (at_ (failed 2#4) []).bfe.run = .idle ∧
    (at_ (failed 2#4) []).bfe.err = true ∧
    ∀ v ∈ [0#32, 5#32, 0xFF#32, 0x100#32, 0x101#32, 0x80000002#32, 0xFFFFFFFF#32],
      v.toNat / 256 ≠ 0 ∨ v.toNat % 256 < 1 ∨ 4 < v.toNat % 256 :=
  ⟨rfl, rfl, rfl, rfl, by simp⟩

theorem witness_ErrorStateAcceptsOnlyZeroize :
    (at_ (failed 2#4) []).bfe.run = .idle ∧ (at_ (failed 2#4) []).bfe.err = true ∧ (1#32 : Word) ≠ 4#32 := by decide

/-- Each of the three causes. -/
theorem witness_OnlyCommandIssueRaises :
    (∃ t, step (at_ { blank with keyLen := 57#8 } [issue .init]) = .next t ∧ t.bfe.err = true ∧ t.bfe.errCode = 1#4) ∧
    (∃ t, step (at_ blank [issue .enc]) = .next t ∧ t.bfe.err = true ∧ t.bfe.errCode = 2#4) ∧
    (∃ t, step (at_ keyed [issue (.wr 1#6 0#32)]) = .next t ∧ t.bfe.err = true ∧ t.bfe.errCode = 3#4) ∧
    (at_ { blank with keyLen := 57#8 } [issue .init]).bfe.err = false ∧ (at_ keyed []).bfe.err = false :=
  ⟨⟨_, rfl, rfl, rfl⟩, ⟨_, rfl, rfl, rfl⟩, ⟨_, rfl, rfl, rfl⟩, rfl, rfl⟩

/-- The error state kept by a write, left by a ZEROIZE, left by a reset. -/
theorem witness_ErrorStateLeftOnlyByWipe :
    (∃ t, step (at_ (failed 2#4) [wrData]) = .next t ∧ t.bfe.err = true) ∧
    (∃ t, step (at_ { failed 2#4 with run := .zeroize } []) = .next t ∧ t.bfe.err = false) ∧
    (∃ t, step (at_ (failed 2#4) [.rst]) = .next t ∧ t.bfe.err = false) ∧ (at_ (failed 2#4) []).bfe.err = true :=
  ⟨⟨_, rfl, rfl⟩, ⟨_, rfl, rfl⟩, ⟨_, rfl, rfl⟩, rfl⟩

/-- `KEY_VALID` set by INIT's completion; cleared by INIT's issue, by ZEROIZE's completion and by a reset. -/
theorem witness_KeyValidWriters :
    (∃ t, step (at_ { blank with keyLen := 5#8, run := .init } []) = .next t ∧ t.bfe.keyValid = true) ∧
    (∃ t, step (at_ keyed [issue .init]) = .next t ∧ t.bfe.keyValid = false) ∧
    (∃ t, step (at_ { keyed with run := .zeroize } []) = .next t ∧ t.bfe.keyValid = false) ∧
    (∃ t, step (at_ keyed [.rst]) = .next t ∧ t.bfe.keyValid = false) ∧
    (at_ { blank with keyLen := 5#8, run := .init } []).bfe.keyValid = false ∧ (at_ keyed []).bfe.keyValid = true :=
  ⟨⟨_, rfl, rfl⟩, ⟨_, rfl, rfl⟩, ⟨_, rfl, rfl⟩, ⟨_, rfl, rfl⟩, rfl, rfl⟩

theorem witness_ResetPinEntersResetState :
    (at_ keyed [.rst, wrData]).queue = .rst :: [wrData] ∧ (at_ { keyed with run := .enc } [.rst]).queue = .rst :: [] :=
  ⟨rfl, rfl⟩

/-- The invariant holds of a keyed BFE with a block to encrypt, and the machine goes on from there. -/
theorem witness_StepKeepsInvariant :
    (at_ keyed [issue .enc]).Inv ∧ ∃ t, step (at_ keyed [issue .enc]) = .next t ∧ t.bfe.run = .enc :=
  ⟨⟨⟨fun _ => ⟨rfl, by decide⟩, fun h => Run.noConfusion h, fun _ => rfl, fun _ => rfl, fun h => Bool.noConfusion h,
    fun h => absurd h (by decide), fun h => Bool.noConfusion h⟩, fun _ => rfl, Nat.zero_le _⟩, ⟨_, rfl, rfl⟩⟩

/-- From reset: write the length 4, issue INIT, let it complete. -/
def fromReset : State := { State.reset with queue := [issue (.wr 3#6 4#32), issue .init] }

theorem test_fromReset_keyed : part (fun t => t.bfe.keyValid) (Host.Core.run Sys2Proof.core 3 fromReset) = some true := by
  decide +kernel

theorem witness_ReachableKeyedMeansScheduled :
    ∃ t, Sys2Proof.core.run 3 { State.reset with queue := [issue (.wr 3#6 4#32), issue .init] } = .next t ∧
      t.bfe.keyValid = true := of_part test_fromReset_keyed

/-- Two states after reset with different contents of `P` and `S`, and a first step. -/
theorem witness_ResetContentsInvisible :
    (at_ blank [wrData]).Inv ∧ SameToHost (at_ blank [wrData]) (at_ { blank with cipher := CipherState.constants } [wrData]) ∧
    ∃ t, step (at_ blank [wrData]) = .next t :=
  ⟨⟨⟨fun h => Bool.noConfusion h, fun h => Run.noConfusion h, fun h => h.elim (fun h => Run.noConfusion h)
    fun h => Run.noConfusion h, fun _ => rfl, fun h => Bool.noConfusion h, fun h => absurd h (by decide),
    fun h => Bool.noConfusion h⟩, fun _ => rfl, Nat.zero_le _⟩, ⟨rfl, fun h => Bool.noConfusion h⟩, ⟨_, rfl⟩⟩

end Sys2Proof.Tests
end

/-!
PROOFS about the state of BFE (10_state.md): the facts about one step, one bus transaction and one completion that the
statements share, then the statements of this family.
-/

namespace Sys2Proof.Machine

/-! ## One step -/

section Step

variable {s t : State}

@[simp] theorem State.withBfe_self (s : State) : s.withBfe s.bfe = s := rfl

theorem State.takeWait_polls (s : State) : s.takeWait.polls = if s.bfe.run = .idle then 0 else s.polls + 1 := by
  unfold State.takeWait
  split <;> simp [*]

@[simp] theorem State.takeWait_epoch (s : State) : s.takeWait.epoch = s.epoch := by
  unfold State.takeWait
  split <;> rfl

/-- What one step can do, with the next state named wherever it changes what the engine holds: BFE stays as it is, an
idle BFE takes one of a bus transaction's effects, the engine completes, or a reset. -/
theorem step_moves (h : step s = .next t) :
    t.bfe = s.bfe ∨ (s.bfe.run = .idle ∧ BusEffect s.bfe t.bfe) ∨ (s.bfe.run ≠ .idle ∧ t = engineStep s) ∨
      (s.queue.head? = some .rst ∧ t = resetStep s) := by
  obtain ⟨-, -, rfl⟩ | ⟨hrun, rfl⟩ | ⟨w, q, -, -, hexec⟩ | ⟨q, -, -, rfl⟩ | ⟨q, hq, rfl⟩ := step_cases h
  · exact .inl rfl
  · exact .inr (.inr (.inl ⟨hrun, rfl⟩))
  · obtain rfl | ⟨a, d, -, rfl⟩ | ⟨hrun, b, hb, rfl⟩ := exec_cases hexec
    · exact .inl rfl
    · exact .inl rfl
    · exact .inr (.inl ⟨hrun, hb⟩)
  · exact .inl (State.takeWait_bfe s)
  · exact .inr (.inr (.inr ⟨by rw [hq, List.head?_cons], rfl⟩))

/-- While a command runs a bus transaction leaves BFE as it is (20_memory.md R43). -/
theorem exec_busy_bfe {i : Instr} (h : exec i s = .next t) (hrun : s.bfe.run ≠ .idle) : t.bfe = s.bfe := by
  obtain rfl | ⟨a, d, -, rfl⟩ | ⟨hidle, -⟩ := exec_cases h
  · rfl
  · rfl
  · exact absurd hidle hrun

/-- What one step does to the scheduling counter: nothing happens at all; the counter is 0; or the host moved under a
running command, which the free schedule allowed it (20_memory.md R53). -/
theorem step_polls (h : step s = .next t) :
    t = s ∨ t.polls = 0 ∨
      (s.bfe.run ≠ .idle ∧ s.polls < Config.busyReads s.epoch ∧ t.bfe = s.bfe ∧ t.epoch = s.epoch ∧
        t.polls = s.polls + 1) := by
  obtain ⟨-, -, rfl⟩ | ⟨-, rfl⟩ | ⟨w, q, -, hturn, hexec⟩ | ⟨q, -, hturn, rfl⟩ | ⟨q, -, rfl⟩ := step_cases h
  · exact .inl rfl
  · exact .inr (.inl rfl)
  · obtain ⟨-, hpolls, hepoch⟩ := exec_host hexec
    by_cases hrun : s.bfe.run = .idle
    · exact .inr (.inl (hpolls.trans (if_pos hrun)))
    · exact .inr (.inr ⟨hrun, (hturn.resolve_left hrun).2, exec_busy_bfe (s := s.take) hexec hrun, hepoch,
        hpolls.trans (if_neg hrun)⟩)
  · by_cases hrun : s.bfe.run = .idle
    · exact .inr (.inl ((State.takeWait_polls s).trans (if_pos hrun)))
    · exact .inr (.inr ⟨hrun, hturn.resolve_left hrun, State.takeWait_bfe s, State.takeWait_epoch s,
        (State.takeWait_polls s).trans (if_neg hrun)⟩)
  · exact .inr (.inl rfl)

theorem core_step : Sys2Proof.core.step = step := rfl

/-- A run of `k + 1` steps is a step and a run of `k`. -/
theorem core_run_succ {k : Nat} :
    Sys2Proof.core.run (k + 1) s = .next t ↔ ∃ u, step s = .next u ∧ Sys2Proof.core.run k u = .next t := by
  simp only [Host.Core.run, core_step]
  cases hs : step s with
  | next u => simp
  | fault r => exact nomatch r
  | refused r => simp

/-- What every step keeps, every run keeps. -/
theorem core_run_keeps {Keeps : State → Prop} (hstep : ∀ s t, Keeps s → step s = .next t → Keeps t) (k : Nat)
    (hs : Keeps s) (hrun : Sys2Proof.core.run k s = .next t) : Keeps t := by
  induction k generalizing s with
  | zero => exact Host.Outcome.next.inj hrun ▸ hs
  | succ k ih =>
    obtain ⟨u, hu, hrun⟩ := core_run_succ.mp hrun
    exact ih (hstep s u hs hu) hrun

end Step

/-! ## What a bus transaction leaves alone -/

section Effect

variable {b b' : Bfe}

/-- No bus transaction writes `P` or `S` (20_memory.md R40). -/
theorem BusEffect.cipher_eq (h : BusEffect b b') : b'.cipher = b.cipher := by
  cases h <;> rfl

/-- The key lock: under `KEY_VALID = 1` no bus transaction writes a key register (10_state.md R16). -/
theorem BusEffect.key_eq_of_keyValid (h : BusEffect b b') (hk : b.keyValid = true) :
    b'.key = b.key ∧ b'.keyLen = b.keyLen := by
  cases h with
  | keyLen v hopen => simp [hopen] at hk
  | key i v hopen => simp [hopen] at hk
  | _ => exact ⟨rfl, rfl⟩

/-- Of the bus transactions only the issue of an accepted INIT writes `KEY_VALID`, and it clears it (40_init.md R96). -/
theorem BusEffect.keyValid_cases (h : BusEffect b b') :
    b'.keyValid = b.keyValid ∨ (b'.keyValid = false ∧ b.err = false ∧ b'.run = .init) := by
  cases h with
  | init herr hlen => exact .inr ⟨rfl, herr, rfl⟩
  | _ => exact .inl rfl

end Effect

/-! ## What a completion changes -/

section Complete

variable {b : Bfe}

theorem Bfe.wipe_eq_afterReset (b : Bfe) : b.wipe = Bfe.afterReset CipherState.zero := rfl

/-- Of the completions only ZEROIZE's writes the key registers (43_control.md R141). -/
theorem complete_key_eq (h : b.run ≠ .zeroize) : (complete b).key = b.key ∧ (complete b).keyLen = b.keyLen := by
  cases hrun : b.run with
  | idle => rw [complete_idle hrun]; exact ⟨rfl, rfl⟩
  | init => rw [complete_init hrun]; exact ⟨rfl, rfl⟩
  | enc => rw [complete_enc hrun]; exact ⟨rfl, rfl⟩
  | dec => rw [complete_dec hrun]; exact ⟨rfl, rfl⟩
  | zeroize => exact absurd hrun h

/-- Of the completions only INIT's and ZEROIZE's write `P`, `S` or `KEY_VALID` (10_state.md R24, R28). -/
theorem complete_cipher_keyValid_eq (hinit : b.run ≠ .init) (hzero : b.run ≠ .zeroize) :
    (complete b).cipher = b.cipher ∧ (complete b).keyValid = b.keyValid := by
  cases hrun : b.run with
  | idle => rw [complete_idle hrun]; exact ⟨rfl, rfl⟩
  | init => exact absurd hrun hinit
  | enc => rw [complete_enc hrun]; exact ⟨rfl, rfl⟩
  | dec => rw [complete_dec hrun]; exact ⟨rfl, rfl⟩
  | zeroize => exact absurd hrun hzero

end Complete

/-! ## The invariant (10_state.md R27) -/

namespace Bfe.Consistent

variable {b b' : Bfe}

/-- A change that leaves the flags alone and starts no command but ZEROIZE keeps consistency, if it leaves the key
registers, `P` and `S` alone while they are in use. -/
theorem of_flags_eq (h : b.Consistent) (hkv : b'.keyValid = b.keyValid) (herr : b'.err = b.err)
    (hcode : b'.errCode = b.errCode) (hrun : b'.run = .idle ∨ b'.run = .zeroize)
    (hkey : b.keyValid = true → b'.cipher = b.cipher ∧ b'.key = b.key ∧ b'.keyLen = b.keyLen) : b'.Consistent where
  keyed hv := by
    have hv : b.keyValid = true := hkv ▸ hv
    obtain ⟨hc, hk, hl⟩ := hkey hv
    rw [hc, hk, hl]
    exact h.keyed hv
  initRun hi := by simp [hi] at hrun
  blockRun hi := by obtain hi | hi := hi <;> simp [hi] at hrun
  noCode := by rw [herr, hcode]; exact h.noCode
  code := by rw [herr, hcode]; exact h.code
  codeUnkeyed := by rw [hcode, hkv]; exact h.codeUnkeyed
  errRun _ := hrun

/-- Latching an error keeps an idle BFE consistent; `KEYLEN` and `NOKEY` only where there is no key. -/
theorem raise (h : b.Consistent) (hidle : b.run = .idle) {c : ErrCause}
    (hc : c = .illegalCmd ∨ b.keyValid = false) : (b.raise c).Consistent where
  keyed := h.keyed
  initRun hi := by simp [hidle] at hi
  blockRun hi := by simp [hidle] at hi
  noCode he := by simp at he
  code _ := by rw [Bfe.raise_errCode]; cases c <;> decide
  codeUnkeyed hcode := by
    rw [Bfe.raise_errCode] at hcode
    obtain rfl | hk := hc
    · exact absurd hcode (by decide)
    · exact hk
  errRun _ := .inl hidle

/-- The issue of an accepted INIT (40_init.md R96). -/
theorem startInit (h : b.Consistent) (herr : b.err = false) (hlen : LegalKeyLen b.keyLen) :
    ((b.withKeyValid false).withRun .init).Consistent where
  keyed hv := by simp at hv
  initRun _ := ⟨rfl, hlen⟩
  blockRun hi := by simp at hi
  noCode := h.noCode
  code := h.code
  codeUnkeyed _ := rfl
  errRun he := by simp [herr] at he

/-- The issue of an accepted ENC or DEC (42_encdec.md R128). -/
theorem startBlock (h : b.Consistent) (herr : b.err = false) (hkv : b.keyValid = true) {r : Run} (hr : r ≠ .init) :
    (b.withRun r).Consistent where
  keyed := h.keyed
  initRun hi := absurd hi hr
  blockRun _ := hkv
  noCode := h.noCode
  code := h.code
  codeUnkeyed := h.codeUnkeyed
  errRun he := by simp [herr] at he

/-- The completion of an INIT (40_init.md R97). -/
theorem completeInit (h : b.Consistent) (hrun : b.run = .init) : (completeInit b).Consistent where
  keyed _ := ⟨rfl, (h.initRun hrun).2⟩
  initRun hi := by simp [Machine.completeInit] at hi
  blockRun _ := rfl
  noCode := h.noCode
  code := h.code
  codeUnkeyed hcode := by
    have herr : b.err = false := by
      cases he : b.err with
      | false => rfl
      | true => simpa [hrun] using h.errRun he
    have hzero : b.errCode = 0#4 := h.noCode herr
    rw [show (Machine.completeInit b).errCode = b.errCode from rfl, hzero] at hcode
    exact absurd hcode (by decide)
  errRun _ := .inl rfl

/-- Right after a reset BFE is consistent, whatever `P` and `S` hold (10_state.md R29). -/
theorem afterReset (c : CipherState) : (Bfe.afterReset c).Consistent where
  keyed hv := by simp at hv
  initRun hi := by simp at hi
  blockRun hi := by simp at hi
  noCode _ := rfl
  code he := by simp at he
  codeUnkeyed _ := rfl
  errRun _ := .inl rfl

/-- Every effect of a bus transaction on an idle BFE keeps it consistent. -/
theorem busEffect (h : b.Consistent) (hidle : b.run = .idle) (he : BusEffect b b') : b'.Consistent := by
  cases he with
  | same => exact h
  | keyLen v hopen => exact h.of_flags_eq rfl rfl rfl (.inl hidle) fun hk => by simp [hopen] at hk
  | key i v hopen => exact h.of_flags_eq rfl rfl rfl (.inl hidle) fun hk => by simp [hopen] at hk
  | dataL v => exact h.of_flags_eq rfl rfl rfl (.inl hidle) fun _ => ⟨rfl, rfl, rfl⟩
  | dataR v => exact h.of_flags_eq rfl rfl rfl (.inl hidle) fun _ => ⟨rfl, rfl, rfl⟩
  | badLen _ hlen => exact h.raise hidle (.inr (Bool.eq_false_of_not_eq_true fun hk => hlen (h.keyed hk).2))
  | noKey _ hk => exact h.raise hidle (.inr hk)
  | illegal _ => exact h.raise hidle (.inl rfl)
  | init herr hlen => exact h.startInit herr hlen
  | enc herr hk => exact h.startBlock herr hk (by decide)
  | dec herr hk => exact h.startBlock herr hk (by decide)
  | zeroize => exact h.of_flags_eq rfl rfl rfl (.inr rfl) fun _ => ⟨rfl, rfl, rfl⟩

/-- Every completion keeps BFE consistent. -/
theorem complete (h : b.Consistent) : (complete b).Consistent := by
  cases hrun : b.run with
  | idle => rw [complete_idle hrun]; exact h
  | init => rw [complete_init hrun]; exact h.completeInit hrun
  | enc => rw [complete_enc hrun]; exact h.of_flags_eq rfl rfl rfl (.inl rfl) fun _ => ⟨rfl, rfl, rfl⟩
  | dec => rw [complete_dec hrun]; exact h.of_flags_eq rfl rfl rfl (.inl rfl) fun _ => ⟨rfl, rfl, rfl⟩
  | zeroize => rw [complete_zeroize hrun, b.wipe_eq_afterReset]; exact afterReset _

end Bfe.Consistent

/-- A step keeps BFE consistent. -/
theorem step_consistent {s t : State} (hs : s.bfe.Consistent) (h : step s = .next t) : t.bfe.Consistent := by
  obtain heq | ⟨hidle, heff⟩ | ⟨-, rfl⟩ | ⟨-, rfl⟩ := step_moves h
  · rw [heq]; exact hs
  · exact hs.busEffect hidle heff
  · exact hs.complete
  · exact Bfe.Consistent.afterReset _

/-- Settles O50: BFE stays consistent (`step_consistent`), and the counter grows only while the free schedule lets the
host move under a running command (`step_polls`). -/
theorem stepKeepsInvariant : Obligations.StepKeepsInvariant := by
  intro s t hs h
  have hbfe : t.bfe.Consistent := step_consistent hs.bfe h
  obtain rfl | hzero | ⟨hrun, hturn, hsame, hepoch, hpolls⟩ := step_polls h
  · exact hs
  · exact ⟨hbfe, fun _ => hzero, hzero ▸ Nat.zero_le _⟩
  · refine ⟨hbfe, fun hidle => absurd (hsame ▸ hidle) hrun, ?_⟩
    rw [hpolls, hepoch]
    exact hturn

/-- Right after the power-on reset the invariant holds, whatever the host is to do. -/
theorem reset_inv (q : List HostAct) : ({ State.reset with queue := q } : State).Inv :=
  ⟨Bfe.Consistent.afterReset _, fun _ => rfl, Nat.zero_le _⟩

/-- Settles O52: the case of a host with nothing to do. -/
theorem invariantAtReset : Obligations.InvariantAtReset := reset_inv []

/-- Settles O51: the invariant holds at reset and every step keeps it, so it holds along the run. -/
theorem reachableKeyedMeansScheduled : Obligations.ReachableKeyedMeansScheduled := by
  intro q k t hrun hkv
  have hinv : t.Inv := core_run_keeps stepKeepsInvariant k (reset_inv q) hrun
  exact hinv.bfe.keyed hkv

end Sys2Proof.Machine

namespace Sys2Proof.Machine

/-! ## A command is the write of its CMD word (30_encoding.md R70, R80) -/

theorem busWrite_cmd (v : Word) (b : Bfe) : busWrite cmdAddr v b = dispatch v b := rfl

theorem dispatch_cmdInit (b : Bfe) : dispatch cmdInit b = b.unlessError admitInit := by
  cases he : b.err with
  | false => simp [dispatch_noError he, Bfe.unlessError, he]
  | true => simp [dispatch_error he, Bfe.unlessError, he, cmdInit, cmdZeroize]

theorem dispatch_cmdEnc (b : Bfe) : dispatch cmdEnc b = b.unlessError admitEnc := by
  cases he : b.err with
  | false => simp [dispatch_noError he, Bfe.unlessError, he, cmdInit, cmdEnc]
  | true => simp [dispatch_error he, Bfe.unlessError, he, cmdEnc, cmdZeroize]

theorem dispatch_cmdDec (b : Bfe) : dispatch cmdDec b = b.unlessError admitDec := by
  cases he : b.err with
  | false => simp [dispatch_noError he, Bfe.unlessError, he, cmdInit, cmdEnc, cmdDec]
  | true => simp [dispatch_error he, Bfe.unlessError, he, cmdDec, cmdZeroize]

theorem dispatch_cmdZeroize (b : Bfe) : dispatch cmdZeroize b = admitZeroize b := by
  cases he : b.err with
  | false => simp [dispatch_noError he, cmdInit, cmdEnc, cmdDec, cmdZeroize]
  | true => simp [dispatch_error he]

/-- Issuing a command is writing its CMD word to `CMD`, in every state. -/
theorem exec_command_eq_wr {i : Instr} {v : Word} (h : encodeCmd i = some v) (s : State) :
    exec i s = exec (.wr cmdAddr v) s := by
  rw [exec_wr, funext (busWrite_cmd v)]
  cases i with
  | rd a d => exact nomatch h
  | wr a w => exact nomatch h
  | init => rw [← Option.some.inj h, funext dispatch_cmdInit, exec_init]
  | enc => rw [← Option.some.inj h, funext dispatch_cmdEnc, exec_enc]
  | dec => rw [← Option.some.inj h, funext dispatch_cmdDec, exec_dec]
  | zeroize => rw [← Option.some.inj h, funext dispatch_cmdZeroize, exec_zeroize]

/-- `RD` as one equation: the value of the register map is returned unless the read is held. -/
theorem exec_rd (a : Addr) (d : Word) (s : State) :
    exec (.rd a d) s =
      if s.bfe.run = .idle ∨ regAt a = .status then .next (s.returnRead (busRead a s.bfe)) else .next s := rfl

/-! ## Replacing `P` and `S` (10_state.md R29, 20_memory.md R40) -/

/-- The state with `c` in `P` and `S`, all else the same. -/
def State.withCipher (s : State) (c : CipherState) : State := s.withBfe (s.bfe.withCipher c)

section Cipher

variable {s t s' : State} (c : CipherState)

@[simp] theorem State.withCipher_bfe (s : State) : (s.withCipher c).bfe = s.bfe.withCipher c := rfl
@[simp] theorem State.withCipher_reads (s : State) : (s.withCipher c).reads = s.reads := rfl

@[simp] theorem State.takeWait_withCipher (s : State) : (s.withCipher c).takeWait = s.takeWait.withCipher c := by
  by_cases hrun : s.bfe.run = .idle <;> simp only [State.takeWait, State.withCipher_bfe, Bfe.withCipher_run, hrun] <;> rfl

theorem whenIdle_withCipher {f : Bfe → Bfe} (hf : ∀ b : Bfe, f (b.withCipher c) = (f b).withCipher c)
    (h : whenIdle f s = .next t) : whenIdle f (s.withCipher c) = .next (t.withCipher c) := by
  obtain ⟨hrun, rfl⟩ | ⟨hrun, rfl⟩ := whenIdle_cases h
  · exact whenIdle_busy hrun
  · rw [whenIdle_idle (s := s.withCipher c) hrun, State.withCipher_bfe, hf]
    rfl

/-- No instruction reads or writes `P` and `S`: it commutes with replacing them. -/
theorem exec_withCipher {i : Instr} (h : exec i s = .next t) : exec i (s.withCipher c) = .next (t.withCipher c) := by
  have hwr : ∀ {a v}, exec (.wr a v) s = .next t → exec (.wr a v) (s.withCipher c) = .next (t.withCipher c) :=
    fun {a v} => whenIdle_withCipher c fun b => busWrite_withCipher a v b c
  have hcmd : ∀ {v}, encodeCmd i = some v → exec i (s.withCipher c) = .next (t.withCipher c) := fun hv => by
    rw [exec_command_eq_wr hv] at h ⊢
    exact hwr h
  cases i with
  | rd a d =>
    rw [exec_rd] at h ⊢
    simp only [State.withCipher_bfe, Bfe.withCipher_run, busRead_withCipher]
    split at h
    · rw [if_pos ‹_›, ← Host.Outcome.next.inj h]; rfl
    · rw [if_neg ‹_›, ← Host.Outcome.next.inj h]
  | wr a v => exact hwr h
  | init => exact hcmd rfl
  | enc => exact hcmd rfl
  | dec => exact hcmd rfl
  | zeroize => exact hcmd rfl

/-- A completion that can happen without a key does not read `P` and `S`: INIT and ZEROIZE replace them. -/
theorem complete_withCipher {b : Bfe} (hb : b.Consistent) (hkv : b.keyValid = false) (hrun : b.run ≠ .idle) :
    complete (b.withCipher c) = complete b := by
  have hblock : ¬(b.run = .enc ∨ b.run = .dec) := fun h => by simpa [hkv] using hb.blockRun h
  cases h : b.run with
  | idle => exact absurd h hrun
  | init => rw [complete_init h, complete_init (b := b.withCipher c) h]; rfl
  | enc => exact absurd (.inl h) hblock
  | dec => exact absurd (.inr h) hblock
  | zeroize => rw [complete_zeroize h, complete_zeroize (b := b.withCipher c) h]; rfl

/-! ## What the host can tell apart (10_state.md R29) -/

theorem SameToHost.refl (s : State) : SameToHost s s := ⟨rfl, fun _ => rfl⟩

theorem SameToHost.withCipher (h : s.bfe.keyValid = false) : SameToHost s (s.withCipher c) :=
  ⟨rfl, fun hk => by simp [h] at hk⟩

theorem SameToHost.eq_withCipher (h : SameToHost s t) : t = s.withCipher t.bfe.cipher := h.1

theorem SameToHost.reads_eq (h : SameToHost s t) : t.reads = s.reads := by
  rw [h.eq_withCipher, State.withCipher_reads]

theorem SameToHost.eq_of_keyValid (h : SameToHost s t) (hk : s.bfe.keyValid = true) : t = s := by
  rw [h.eq_withCipher, h.2 hk]
  rfl

/-- Without a key no instruction makes one. -/
theorem exec_keyValid_false {i : Instr} (h : exec i s = .next t) (hk : s.bfe.keyValid = false) :
    t.bfe.keyValid = false := by
  obtain rfl | ⟨a, d, -, rfl⟩ | ⟨-, b, heff, rfl⟩ := exec_cases h
  · exact hk
  · exact hk
  · exact heff.keyValid_cases.elim (·.trans hk) (·.1)

/-- Without a key, a step from other contents of `P` and `S` goes the same way: it keeps those contents, or both states
replace them by the same. -/
theorem step_withCipher (hs : s.bfe.Consistent) (hk : s.bfe.keyValid = false) (h : step s = .next s') :
    ∃ t', step (s.withCipher c) = .next t' ∧ SameToHost s' t' := by
  obtain ⟨-, -, ha⟩ | ⟨hrun, ha⟩ | ⟨a, q, -, -, ha⟩ := nextAgent_cases s
  all_goals have ha' : nextAgent (s.withCipher c) = _ := ha
  · obtain rfl : s = s' := Host.Outcome.next.inj ((step_nobody ha).symm.trans h)
    exact ⟨_, step_nobody ha', .withCipher c hk⟩
  · obtain rfl : engineStep s = s' := Host.Outcome.next.inj ((step_engine ha).symm.trans h)
    have hsame : engineStep (s.withCipher c) = engineStep s := by
      simp only [engineStep, State.withCipher_bfe, complete_withCipher c hs hk hrun]
      rfl
    exact ⟨_, step_engine ha', hsame ▸ .refl _⟩
  · cases a with
    | bus w =>
      rw [step_bus ha] at h
      rw [step_bus ha']
      exact ⟨_, exec_withCipher c h, .withCipher c (exec_keyValid_false h hk)⟩
    | wait =>
      obtain rfl := Host.Outcome.next.inj ((step_wait ha).symm.trans h)
      rw [step_wait ha', State.takeWait_withCipher]
      exact ⟨_, rfl, .withCipher c (by simpa using hk)⟩
    | rst =>
      obtain rfl := Host.Outcome.next.inj ((step_rst ha).symm.trans h)
      exact ⟨_, step_rst ha', .refl _⟩

end Cipher

/-- Settles O53: with a key the two states are equal, and without one a step does not read `P` and `S`. -/
theorem resetContentsInvisible : Obligations.ResetContentsInvisible := by
  intro s t s' hs hsame h
  obtain ⟨t', ht', hsame'⟩ : ∃ t', step t = .next t' ∧ SameToHost s' t' := by
    cases hk : s.bfe.keyValid with
    | true => exact ⟨s', hsame.eq_of_keyValid hk ▸ h, .refl s'⟩
    | false => exact hsame.eq_withCipher ▸ step_withCipher _ hs.bfe hk h
  exact ⟨t', ht', hsame', hsame'.reads_eq⟩

end Sys2Proof.Machine

namespace Sys2Proof.Machine

/-! ## Who writes what (10_state.md R16, R24, R28) -/

/-- Settles O41: no bus transaction writes `P` or `S`, and of the completions only INIT's and ZEROIZE's do. -/
theorem cipherStateReadOnly : Obligations.CipherStateReadOnly := by
  intro s t h hne
  obtain heq | ⟨-, heff⟩ | ⟨-, rfl⟩ | hrst := step_moves h
  · exact absurd (congrArg Bfe.cipher heq) hne
  · exact absurd heff.cipher_eq hne
  · refine .inl ⟨?_, rfl⟩
    by_contra hrun
    obtain ⟨hinit, hzero⟩ := not_or.mp hrun
    exact hne (complete_cipher_keyValid_eq hinit hzero).1
  · exact .inr hrst

/-- What one step does to `KEY_VALID`: it is kept, set by INIT's completion, or cleared by the issue of an accepted INIT,
by ZEROIZE's completion or by a reset. -/
theorem step_keyValid {s t : State} (h : step s = .next t) :
    t.bfe.keyValid = s.bfe.keyValid ∨
      (t.bfe.keyValid = true ∧ s.bfe.run = .init ∧ t = engineStep s) ∨
      (t.bfe.keyValid = false ∧
        ((s.bfe.run = .idle ∧ t.bfe.run = .init ∧ s.bfe.err = false) ∨ (s.bfe.run = .zeroize ∧ t = engineStep s) ∨
          (s.queue.head? = some .rst ∧ t = resetStep s))) := by
  obtain heq | ⟨hidle, heff⟩ | ⟨-, rfl⟩ | ⟨hq, rfl⟩ := step_moves h
  · exact .inl (congrArg Bfe.keyValid heq)
  · exact heff.keyValid_cases.imp_right fun ⟨hclear, herr, hrun⟩ => .inr ⟨hclear, .inl ⟨hidle, hrun, herr⟩⟩
  · rw [engineStep_bfe]
    by_cases hinit : s.bfe.run = .init
    · exact .inr (.inl ⟨by rw [complete_init hinit]; rfl, hinit, rfl⟩)
    by_cases hzero : s.bfe.run = .zeroize
    · exact .inr (.inr ⟨by rw [complete_zeroize hzero]; rfl, .inr (.inl ⟨hzero, rfl⟩)⟩)
    · exact .inl (complete_cipher_keyValid_eq hinit hzero).2
  · exact .inr (.inr ⟨rfl, .inr (.inr ⟨hq, rfl⟩)⟩)

/-- Settles O47: each change of `KEY_VALID` is one of those `step_keyValid` lists. -/
theorem keyValidWriters : Obligations.KeyValidWriters := by
  intro s t h
  obtain hkept | ⟨hset, hinit⟩ | ⟨hclear, hhow⟩ := step_keyValid h
  · rw [hkept]
    exact ⟨fun hf ht => by simp [hf] at ht, fun ht hf => by simp [hf] at ht⟩
  · exact ⟨fun _ _ => hinit, fun _ hf => by simp [hset] at hf⟩
  · exact ⟨fun _ ht => by simp [hclear] at ht, fun _ _ => hhow⟩

/-- The key lock on the bus: under `KEY_VALID = 1` a write to `KEYLEN` or `KEY` does nothing (10_state.md R16). -/
theorem busWrite_locked {a : Addr} {v : Word} {b : Bfe} (hk : b.keyValid = true)
    (ha : a = 3#6 ∨ 16 ≤ a.toNat ∧ a.toNat ≤ 29) : busWrite a v b = b := by
  have hreg : regAt a = .keyLen ∨ ∃ i, regAt a = .key i := by
    refine ha.imp (fun h => by rw [h]; rfl) fun h => ⟨⟨a.toNat - 16, by omega⟩, regAt_key.mpr ?_⟩
    exact (Nat.add_sub_cancel' h.1).symm
  obtain hreg | ⟨i, hreg⟩ := hreg <;> simp [busWrite, hreg, Bfe.ifUnlocked, hk]

/-- Settles O22: the lock stops the writes, and no completion but ZEROIZE's touches the key registers. -/
theorem keyLockHolds : Obligations.KeyLockHolds := by
  refine ⟨fun s a v hk ha => ?_, fun s t h hlock hzero hrst => ?_⟩
  · rw [exec_wr]
    by_cases hidle : s.bfe.run = .idle
    · rw [whenIdle_idle hidle, busWrite_locked hk ha, State.withBfe_self]
    · exact whenIdle_busy hidle
  · obtain heq | ⟨hidle, heff⟩ | ⟨-, rfl⟩ | ⟨hq, -⟩ := step_moves h
    · rw [heq]
      exact ⟨rfl, rfl⟩
    · exact heff.key_eq_of_keyValid (hlock.resolve_right (by simp [hidle]))
    · exact complete_key_eq hzero
    · exact absurd hq hrst

/-! ## Becoming busy (10_state.md R21, R24) -/

section Busy

variable {b : Bfe}

/-- A command that the error state turns away, issued to an idle engine, starts what its admission starts, and only
without an error (60_exceptions.md R154). -/
theorem unlessError_run {f : Bfe → Bfe} {r : Run} (hidle : b.run = .idle) (hf : (f b).run ≠ .idle → (f b).run = r)
    (h : (b.unlessError f).run ≠ .idle) : (b.unlessError f).run = r ∧ b.err = false := by
  unfold Bfe.unlessError at h ⊢
  cases he : b.err with
  | false =>
    rw [he] at h
    exact ⟨hf h, rfl⟩
  | true =>
    rw [he] at h
    exact absurd hidle h

theorem admitInit_run (hidle : b.run = .idle) (h : (admitInit b).run ≠ .idle) : (admitInit b).run = .init := by
  unfold admitInit at h ⊢
  split
  · rfl
  · rw [if_neg ‹_›] at h
    exact absurd hidle h

theorem needKey_run {r : Run} (hidle : b.run = .idle) (h : (b.needKey (·.withRun r)).run ≠ .idle) :
    (b.needKey (·.withRun r)).run = r := by
  unfold Bfe.needKey at h ⊢
  split
  · rfl
  · rw [if_neg ‹_›] at h
    exact absurd hidle h

/-- A write that issues no command starts none (30_encoding.md R75). -/
theorem busWrite_run {a : Addr} {v : Word} (h : ¬(a = cmdAddr ∧ LegalCmdWord v)) :
    (busWrite a v b).run = b.run := by
  by_cases ha : a = cmdAddr
  · subst ha
    have hv : ¬LegalCmdWord v := fun hv => h ⟨rfl, hv⟩
    simp only [not_or] at hv
    rw [busWrite_cmd]
    cases he : b.err with
    | false => simp [dispatch_noError he, hv]
    | true => simp [dispatch_error he, hv]
  · have hreg : regAt a ≠ .cmd := fun hr => ha (regAt_cmd.mp hr)
    unfold busWrite Bfe.ifUnlocked
    split
    · rfl
    · exact absurd ‹_› hreg
    · rfl
    · split <;> rfl
    · rfl
    · rfl
    · split <;> rfl
    · rfl

/-- A decoded `WR` is no command in disguise (30_encoding.md R70). -/
theorem decode_wr {w : BusWord} {a : Addr} {v : Word} (h : decode w = .wr a v) :
    ¬(a = cmdAddr ∧ LegalCmdWord v) := by
  obtain ⟨-, hd⟩ | ⟨-, hno, hd⟩ | ⟨-, -, hd⟩ := decode_cases w
  · exact nomatch hd.symm.trans h
  · obtain ⟨rfl, rfl⟩ := Instr.wr.inj (hd.symm.trans h)
    exact hno
  · rw [h] at hd
    exact nomatch hd

/-- The transactions that make an idle engine busy: an accepted command each. -/
theorem exec_starts {w : BusWord} {s t : State} (hidle : s.bfe.run = .idle) (h : exec (decode w) s = .next t)
    (hrun : t.bfe.run ≠ .idle) :
    (decode w = .init ∧ t.bfe.run = .init ∧ s.bfe.err = false) ∨
      (decode w = .enc ∧ t.bfe.run = .enc ∧ s.bfe.err = false) ∨
      (decode w = .dec ∧ t.bfe.run = .dec ∧ s.bfe.err = false) ∨ (decode w = .zeroize ∧ t.bfe.run = .zeroize) := by
  cases hd : decode w with
  | rd a d =>
    rw [hd, exec_rd, if_pos (.inl hidle)] at h
    exact absurd (Host.Outcome.next.inj h ▸ hidle) hrun
  | wr a v =>
    rw [hd, exec_wr, whenIdle_idle hidle] at h
    obtain rfl := Host.Outcome.next.inj h
    exact absurd ((busWrite_run (decode_wr hd)).trans hidle) hrun
  | init =>
    rw [hd, exec_init, whenIdle_idle hidle] at h
    obtain rfl := Host.Outcome.next.inj h
    exact .inl ⟨rfl, unlessError_run hidle (admitInit_run hidle) hrun⟩
  | enc =>
    rw [hd, exec_enc, whenIdle_idle hidle] at h
    obtain rfl := Host.Outcome.next.inj h
    exact .inr (.inl ⟨rfl, unlessError_run hidle (needKey_run hidle) hrun⟩)
  | dec =>
    rw [hd, exec_dec, whenIdle_idle hidle] at h
    obtain rfl := Host.Outcome.next.inj h
    exact .inr (.inr (.inl ⟨rfl, unlessError_run hidle (needKey_run hidle) hrun⟩))
  | zeroize =>
    rw [hd, exec_zeroize, whenIdle_idle hidle] at h
    obtain rfl := Host.Outcome.next.inj h
    exact .inr (.inr (.inr ⟨rfl, rfl⟩))

end Busy

/-- Settles O13: of the steps of an idle engine only a bus transaction can leave it busy, and then it is an accepted
command (`exec_starts`). -/
theorem busyOnlyByAcceptedCommand : Obligations.BusyOnlyByAcceptedCommand := by
  intro s t hidle h hrun
  obtain ⟨-, -, rfl⟩ | ⟨hbusy, -⟩ | ⟨w, q, hq, -, hexec⟩ | ⟨q, -, -, rfl⟩ | ⟨q, -, rfl⟩ := step_cases h
  · exact absurd hidle hrun
  · exact absurd hidle hbusy
  · exact ⟨w, q, hq, exec_starts (s := s.take) hidle hexec hrun⟩
  · exact absurd ((congrArg Bfe.run (State.takeWait_bfe s)).trans hidle) hrun
  · exact absurd rfl hrun

/-! ## Reads (10_state.md R13, R19) -/

/-- `{x, y}` as a number. -/
theorem append_toNat {m n : Nat} (x : BitVec m) (y : BitVec n) : (x ++ y).toNat = x.toNat * 2 ^ n + y.toNat := by
  rw [BitVec.toNat_append, ← Nat.shiftLeft_add_eq_or_of_lt y.isLt, Nat.shiftLeft_eq]

/-- Settles O16: `STATUS` as the sum of its fields, none of which overflows. -/
theorem statusWordFields : Obligations.StatusWordFields := by
  intro b
  have hcode := b.errCode.isLt
  have herr : b.err.toNat ≤ 1 := b.err.toNat_le
  have hkv : b.keyValid.toNat ≤ 1 := b.keyValid.toNat_le
  have hbusy : b.busy.toNat = if b.run = .idle then 0 else 1 := by
    by_cases hrun : b.run = .idle <;> simp [Bfe.busy, hrun]
  have hbusy' : b.busy.toNat ≤ 1 := b.busy.toNat_le
  simp only [Bfe.status, BitVec.toNat_setWidth, append_toNat, BitVec.toNat_ofBool, BitVec.toNat_ofNat, ← hbusy]
  omega

/-- No register of the map shows the key registers, `P` or `S`. -/
theorem busRead_withSecrets (a : Addr) (b : Bfe) (c : CipherState) (k : Vector Word 14) :
    busRead a { b with cipher := c, key := k } = busRead a b := by
  unfold busRead
  split <;> rfl

/-- Settles O17: whether a read is held depends on `RUN` alone, and its value on no secret (`busRead_withSecrets`). -/
theorem readsRevealNoKey : Obligations.ReadsRevealNoKey := by
  intro s t t' c k a d h h'
  rw [exec_rd] at h h'
  simp only [State.withBfe_bfe, busRead_withSecrets] at h'
  split at h
  · rw [if_pos ‹_›] at h'
    rw [← Host.Outcome.next.inj h, ← Host.Outcome.next.inj h']
    rfl
  · rw [if_neg ‹_›] at h'
    rw [← Host.Outcome.next.inj h, ← Host.Outcome.next.inj h']
    rfl

/-! ## Key bytes (10_state.md R17) -/

theorem keyByte_eq_byteOf (key : Vector Word 14) {n : Nat} (h : n < 56) :
    keyByte key n = byteOf key[n / 4] (n % 4) := dif_pos h

/-- Settles O28: the byte of a word by arithmetic is `byteOf_toNat`. -/
theorem keyByteIsItsField : Obligations.KeyByteIsItsField := by
  intro key i
  rw [keyByte_eq_byteOf key i.isLt, byteOf_toNat]

/-- The key bytes after a write of key register `i`. -/
theorem keyByte_set (key : Vector Word 14) (i : Fin 14) (v : Word) {n : Nat} (h : n < 56) :
    keyByte (key.set i.val v) n = if n / 4 = i.val then byteOf v (n % 4) else keyByte key n := by
  rw [keyByte_eq_byteOf _ h, keyByte_eq_byteOf _ h, Vector.getElem_set]
  by_cases hi : n / 4 = i.val
  · rw [if_pos hi, if_pos hi.symm]
  · rw [if_neg hi, if_neg (Ne.symm hi)]

/-- A write to `KEY[i]` with the lock open (20_memory.md R42). -/
theorem busWrite_key_unlocked {a : Addr} {i : Fin 14} (ha : a.toNat = 16 + i.val) (v : Word) {b : Bfe}
    (hk : b.keyValid = false) : busWrite a v b = b.withKey i v := by
  simp [busWrite, regAt_key.mpr ha, Bfe.ifUnlocked, hk]

/-- Settles O21: the address is that of `KEY[i]`, and the key bytes after the write are `keyByte_set`'s. -/
theorem keyWriteSetsItsFourBytes : Obligations.KeyWriteSetsItsFourBytes := by
  intro s i v hidle hk
  have ha : (BitVec.ofNat 6 (16 + i.val)).toNat = 16 + i.val := by
    rw [BitVec.toNat_ofNat]
    omega
  refine ⟨s.withBfe (s.bfe.withKey i v), ?_, fun n hn => ?_⟩
  · rw [exec_wr, whenIdle_idle hidle, busWrite_key_unlocked ha v hk]
  · have hbyte : BitVec.ofNat 8 (v.toNat / 2 ^ (24 - 8 * (n % 4)) % 256) = byteOf v (n % 4) := by
      rw [← byteOf_toNat, BitVec.ofNat_toNat, BitVec.setWidth_eq]
    rw [hbyte]
    exact keyByte_set s.bfe.key i v hn

/-! ## The bytes of a block (10_state.md R30) -/

theorem wordOf_toNat (a b c d : Byte) :
    (wordOf a b c d).toNat = a.toNat * 2 ^ 24 + b.toNat * 2 ^ 16 + c.toNat * 2 ^ 8 + d.toNat := by
  simp only [wordOf, append_toNat]
  omega

/-- The four bytes of a word give the word back. -/
theorem wordOf_byteOf (x : Word) : wordOf (byteOf x 0) (byteOf x 1) (byteOf x 2) (byteOf x 3) = x := by
  have hx := x.isLt
  apply BitVec.eq_of_toNat_eq
  simp only [wordOf_toNat, byteOf_toNat]
  omega

/-- The bytes of a word given by its bytes. -/
theorem byteOf_wordOf (a b c d : Byte) :
    byteOf (wordOf a b c d) 0 = a ∧ byteOf (wordOf a b c d) 1 = b ∧ byteOf (wordOf a b c d) 2 = c ∧
      byteOf (wordOf a b c d) 3 = d := by
  have ha := a.isLt
  have hb := b.isLt
  have hc := c.isLt
  have hd := d.isLt
  refine ⟨?_, ?_, ?_, ?_⟩
  all_goals
    apply BitVec.eq_of_toNat_eq
    simp only [byteOf_toNat, wordOf_toNat]
    omega

theorem bytesOfBlock_getElem (x : Block) (i : Fin 8) :
    (bytesOfBlock x)[i.val] = if i.val < 4 then byteOf x.1 i.val else byteOf x.2 (i.val - 4) := by
  simp [bytesOfBlock]

theorem bytesOfBlock_blockOfBytes (b : Vector Byte 8) : bytesOfBlock (blockOfBytes b) = b := by
  obtain ⟨h0, h1, h2, h3⟩ := byteOf_wordOf b[0] b[1] b[2] b[3]
  obtain ⟨h4, h5, h6, h7⟩ := byteOf_wordOf b[4] b[5] b[6] b[7]
  refine Vector.ext fun i hi => ?_
  rw [bytesOfBlock_getElem _ ⟨i, hi⟩]
  interval_cases i
  · exact h0
  · exact h1
  · exact h2
  · exact h3
  · exact h4
  · exact h5
  · exact h6
  · exact h7

theorem blockOfBytes_bytesOfBlock (x : Block) : blockOfBytes (bytesOfBlock x) = x :=
  Prod.ext (wordOf_byteOf x.1) (wordOf_byteOf x.2)

/-- The byte of a block at an arithmetic position: the left word is the upper half of the number. -/
theorem bytesOfBlock_toNat (x : Block) (i : Fin 8) :
    (bytesOfBlock x)[i.val].toNat = (x.1.toNat * 2 ^ 32 + x.2.toNat) / 2 ^ (56 - 8 * i.val) % 256 := by
  have hr := x.2.isLt
  rw [bytesOfBlock_getElem]
  obtain ⟨i, hi⟩ := i
  dsimp only
  split
  · rw [byteOf_toNat]
    interval_cases i <;> omega
  · rw [byteOf_toNat]
    interval_cases i <;> omega

/-- Settles O54: the two inverses and the value of each byte, put together. -/
theorem blockByteView : Obligations.BlockByteView :=
  ⟨bytesOfBlock_blockOfBytes, blockOfBytes_bytesOfBlock, bytesOfBlock_toNat⟩

/-! ## The reset state (10_state.md R29) -/

theorem afterReset_status (c : CipherState) : (Bfe.afterReset c).status = 0#32 :=
  BitVec.eq_of_toNat_eq (by simp [statusWordFields (Bfe.afterReset c)])

theorem afterReset_keyWord (c : CipherState) (i : Fin 14) : (Bfe.afterReset c).key[i.val] = 0#32 := by
  simp

/-- Settles O48: each field of `Bfe.afterReset`, and `STATUS` by the sum of its fields. -/
theorem resetStateValues : Obligations.ResetStateValues := by
  refine ⟨⟨CipherState.afterReset 0, rfl⟩, rfl, rfl, fun c => ?_⟩
  exact ⟨rfl, rfl, rfl, rfl, rfl, afterReset_keyWord c, rfl, rfl, rfl, afterReset_status c⟩

end Sys2Proof.Machine

/-!
PROOFS about the host register space and the two agents (20_memory.md): what a read and a write do by address, which
transactions are held, and how a running command meets the host's queue.
-/

namespace Sys2Proof.Machine

/-! ## Reads by address (20_memory.md R41) -/

/-- The value of a read as a chain of address tests. -/
theorem busRead_eq (a : Addr) (b : Bfe) :
    busRead a b =
      if a = 0#6 then Config.idValue else if a = 1#6 then 0#32 else if a = 2#6 then b.status
      else if a = 3#6 then b.keyLen.setWidth 32 else if a = 4#6 then b.dataL else if a = 5#6 then b.dataR
      else 0#32 := by
  rw [busRead, regAt_eq]
  split_ifs <;> rfl

/-- Settles O15: a read that is not held returns the map's value (`busRead_eq`), and one that is does nothing. -/
theorem readReturnsMappedValue : Obligations.ReadReturnsMappedValue := by
  intro s a d
  simp only [exec_rd, regAt_status]
  refine ⟨fun hgo => ?_, fun hrun ha => if_neg (not_or.mpr ⟨hrun, ha⟩)⟩
  rw [if_pos hgo, busRead_eq]
  rfl

/-! ## Writes by address (20_memory.md R42) -/

theorem regAt_keyLen {a : Addr} : regAt a = .keyLen ↔ a = 3#6 := by revert a; decide
theorem regAt_dataL {a : Addr} : regAt a = .dataL ↔ a = 4#6 := by revert a; decide
theorem regAt_dataR {a : Addr} : regAt a = .dataR ↔ a = 5#6 := by revert a; decide

/-- The low byte of a word by arithmetic. -/
theorem extractLsb'_byte (v : Word) : v.extractLsb' 0 8 = BitVec.ofNat 8 (v.toNat % 256) := by
  apply BitVec.eq_of_toNat_eq
  simp [BitVec.extractLsb'_toNat]

theorem Bfe.withKey_eq (b : Bfe) (i : Fin 14) (v : Word) :
    b.withKey i v = { b with key := b.key.setIfInBounds i.val v } := by
  have hset : b.key.set i.val v = b.key.setIfInBounds i.val v :=
    Vector.ext fun j hj => by rw [Vector.getElem_set, Vector.getElem_setIfInBounds]
  rw [Bfe.withKey, hset]

/-- The effect of a write as a chain of address tests. -/
theorem busWrite_eq (a : Addr) (v : Word) (b : Bfe) :
    busWrite a v b =
      if a = 1#6 then dispatch v b
      else if a = 3#6 then (if b.keyValid then b else { b with keyLen := BitVec.ofNat 8 (v.toNat % 256) })
      else if a = 4#6 then { b with dataL := v }
      else if a = 5#6 then { b with dataR := v }
      else if 16 ≤ a.toNat ∧ a.toNat ≤ 29 then
        (if b.keyValid then b else { b with key := b.key.setIfInBounds (a.toNat - 16) v })
      else b := by
  split
  · subst a; rfl
  split
  · subst a
    rw [← extractLsb'_byte]
    rfl
  split
  · subst a; rfl
  split
  · subst a; rfl
  split
  · have hreg : regAt a = .key ⟨a.toNat - 16, by omega⟩ := regAt_key.mpr (by dsimp only; omega)
    simp only [busWrite, hreg, Bfe.ifUnlocked, Bfe.withKey_eq]
  · rw [busWrite, regAt_eq]
    split_ifs <;> rfl

/-- Settles O18: an idle engine takes the write's effect (`busWrite_eq`), a busy one holds it. -/
theorem writeEffectByAddress : Obligations.WriteEffectByAddress := by
  intro s a v
  rw [exec_wr]
  refine ⟨fun hidle => ?_, whenIdle_busy⟩
  rw [whenIdle_idle hidle, busWrite_eq]
  rfl

/-- What a write can do, and at which address. -/
theorem busWrite_cases (a : Addr) (v : Word) (b : Bfe) :
    busWrite a v b = b ∨ (a = 1#6 ∧ busWrite a v b = dispatch v b) ∨
      (a = 3#6 ∧ busWrite a v b = b.withKeyLen (v.extractLsb' 0 8)) ∨ (a = 4#6 ∧ busWrite a v b = b.withDataL v) ∨
      (a = 5#6 ∧ busWrite a v b = b.withDataR v) ∨
      ∃ i : Fin 14, a.toNat = 16 + i.val ∧ busWrite a v b = b.withKey i v := by
  unfold busWrite Bfe.ifUnlocked
  split
  case h_1 => exact .inl rfl
  case h_2 hreg => exact .inr (.inl ⟨regAt_cmd.mp hreg, rfl⟩)
  case h_3 => exact .inl rfl
  case h_4 hreg =>
    split
    · exact .inl rfl
    · exact .inr (.inr (.inl ⟨regAt_keyLen.mp hreg, rfl⟩))
  case h_5 hreg => exact .inr (.inr (.inr (.inl ⟨regAt_dataL.mp hreg, rfl⟩)))
  case h_6 hreg => exact .inr (.inr (.inr (.inr (.inl ⟨regAt_dataR.mp hreg, rfl⟩))))
  case h_7 i hreg =>
    split
    · exact .inl rfl
    · exact .inr (.inr (.inr (.inr (.inr ⟨i, regAt_key.mp hreg, rfl⟩))))
  case h_8 => exact .inl rfl

/-- Settles O23: each case of `busWrite_cases` changes the one register at its own address. -/
theorem writeFrame : Obligations.WriteFrame := by
  intro s t a v h
  obtain ⟨-, rfl⟩ | ⟨-, rfl⟩ := whenIdle_cases ((exec_wr a v s).symm.trans h)
  · exact ⟨rfl, rfl, rfl, fun _ => rfl, fun _ => rfl, fun _ => rfl, fun _ _ => rfl, fun _ => ⟨rfl, rfl, rfl, rfl⟩⟩
  rw [State.withBfe_bfe]
  refine ⟨(busWrite_effect a v s.bfe).cipher_eq, rfl, rfl, ?_⟩
  obtain heq | ⟨rfl, heq⟩ | ⟨rfl, heq⟩ | ⟨rfl, heq⟩ | ⟨rfl, heq⟩ | ⟨i, hi, heq⟩ := busWrite_cases a v s.bfe <;> rw [heq]
  · exact ⟨fun _ => rfl, fun _ => rfl, fun _ => rfl, fun _ _ => rfl, fun _ => ⟨rfl, rfl, rfl, rfl⟩⟩
  · obtain ⟨-, hkey, hkeyLen, hdataL, hdataR⟩ := dispatch_frame v s.bfe
    exact ⟨fun _ => hkeyLen, fun _ => hdataL, fun _ => hdataR, fun _ _ => by rw [hkey], fun ha => absurd rfl ha⟩
  · exact ⟨fun ha => absurd rfl ha, fun _ => rfl, fun _ => rfl, fun _ _ => rfl, fun _ => ⟨rfl, rfl, rfl, rfl⟩⟩
  · exact ⟨fun _ => rfl, fun ha => absurd rfl ha, fun _ => rfl, fun _ _ => rfl, fun _ => ⟨rfl, rfl, rfl, rfl⟩⟩
  · exact ⟨fun _ => rfl, fun _ => rfl, fun ha => absurd rfl ha, fun _ _ => rfl, fun _ => ⟨rfl, rfl, rfl, rfl⟩⟩
  · refine ⟨fun _ => rfl, fun _ => rfl, fun _ => rfl, fun j hj => ?_, fun _ => ⟨rfl, rfl, rfl, rfl⟩⟩
    exact Vector.getElem_set_ne i.isLt j.isLt (by omega)

/-! ## Which transactions are held (20_memory.md R43, R44) -/

theorem isStatusRead_iff {w : BusWord} : isStatusRead w = true ↔ ∃ d, decode w = .rd 2#6 d := by
  unfold isStatusRead
  cases decode w <;> simp [regAt_status]

theorem isStatusRead_eq_false {w : BusWord} : isStatusRead w = false ↔ ∀ d, decode w ≠ .rd 2#6 d := by
  rw [← Bool.not_eq_true, isStatusRead_iff, not_exists]

/-- The port `ready` is 0 for exactly the transactions that are held. -/
theorem ready_eq_false {b : Bfe} {w : BusWord} :
    ready b w = false ↔ b.run ≠ .idle ∧ ∀ d, decode w ≠ .rd 2#6 d := by
  rw [ready, Bool.or_eq_false_iff, decide_eq_false_iff_not, isStatusRead_eq_false]

/-- A held transaction has no effect and returns no data. -/
theorem exec_held {s : State} {i : Instr} (hrun : s.bfe.run ≠ .idle) (hi : ∀ d, i ≠ .rd 2#6 d) :
    exec i s = .next s := by
  cases i with
  | rd a d => exact (readReturnsMappedValue s a d).2 hrun fun ha => hi d (by rw [ha])
  | wr a v => exact (exec_wr a v s).trans (whenIdle_busy hrun)
  | init => exact (exec_init s).trans (whenIdle_busy hrun)
  | enc => exact (exec_enc s).trans (whenIdle_busy hrun)
  | dec => exact (exec_dec s).trans (whenIdle_busy hrun)
  | zeroize => exact (exec_zeroize s).trans (whenIdle_busy hrun)

/-- Only a read returns data. -/
theorem exec_reads_of_ne_rd {s t : State} {i : Instr} (h : exec i s = .next t) (hi : ∀ a d, i ≠ .rd a d) :
    t.reads = s.reads := by
  obtain rfl | ⟨a, d, rfl, -⟩ | ⟨-, b, -, rfl⟩ := exec_cases h
  · rfl
  · exact absurd rfl (hi a d)
  · rfl

/-- A transaction with bit 38 set is no read (30_encoding.md R71). -/
theorem decode_ne_rd {w : BusWord} (hw : BusWord.we w = true) (a : Addr) (d : Word) : decode w ≠ .rd a d := by
  intro hd
  obtain ⟨hw', -⟩ | ⟨-, -, hd'⟩ | ⟨-, -, hd'⟩ := decode_cases w
  · exact Bool.noConfusion (hw'.symm.trans hw)
  · exact nomatch hd.symm.trans hd'
  · rw [hd] at hd'
    exact nomatch hd'

/-- A transaction with bit 38 clear is the read of its address field (30_encoding.md R71). -/
theorem decode_of_we_false {w : BusWord} (hw : BusWord.we w = false) :
    decode w = .rd (BusWord.addr w) (BusWord.wdata w) := by
  obtain ⟨-, hd⟩ | ⟨hw', -⟩ | ⟨hw', -⟩ := decode_cases w
  · exact hd
  · exact Bool.noConfusion (hw.symm.trans hw')
  · exact Bool.noConfusion (hw.symm.trans hw')

/-- What the transaction at the ports returns is what `rdata` shows. -/
theorem exec_reads_eq_rdata {s t : State} {w : BusWord} (h : exec (decode w) s = .next t) :
    t.reads = s.reads ++ (rdata s.bfe w).toList := by
  cases hready : ready s.bfe w with
  | false =>
    obtain ⟨hrun, hw⟩ := ready_eq_false.mp hready
    rw [exec_held hrun hw] at h
    simp [rdata, hready, ← Host.Outcome.next.inj h]
  | true =>
    cases hwe : BusWord.we w with
    | true => simp [rdata, hwe, exec_reads_of_ne_rd h (decode_ne_rd hwe)]
    | false =>
      have hgo : s.bfe.run = .idle ∨ regAt (BusWord.addr w) = .status := by
        simpa [ready, isStatusRead, decode_of_we_false hwe] using hready
      rw [decode_of_we_false hwe, exec_rd, if_pos hgo] at h
      simp [rdata, hready, hwe, ← Host.Outcome.next.inj h]

/-- Settles O8: the data by `exec_reads_eq_rdata`, the hold by `ready_eq_false` and `exec_held`. -/
theorem portsShowTheTransaction : Obligations.PortsShowTheTransaction := by
  intro s t w h
  refine ⟨exec_reads_eq_rdata h, fun hready => ?_, ready_eq_false⟩
  obtain ⟨hrun, hw⟩ := ready_eq_false.mp hready
  exact (Host.Outcome.next.inj ((exec_held hrun hw).symm.trans h)).symm

/-! ## The host's next act and the engine (20_memory.md R50, R53) -/

section Agents

variable {s t : State} {a : HostAct} {q : List HostAct}

/-- The host's move with the engine idle: the counter of moves under a command is 0. -/
theorem State.take_idle (hrun : s.bfe.run = .idle) (hq : s.queue = a :: q) :
    s.take = { s with queue := q, polls := 0 } := by
  simp [State.take, State.countMove, hrun, hq]

/-- The host's move under a running command is counted. -/
theorem State.take_busy (hrun : s.bfe.run ≠ .idle) (hq : s.queue = a :: q) :
    s.take = { s with queue := q, polls := s.polls + 1 } := by
  simp [State.take, State.countMove, hrun, hq]

/-- While a command runs and the host has nothing to do or is held, the step is the engine's. -/
theorem step_engine_of_held (hrun : s.bfe.run ≠ .idle) (hheld : ∀ a q, s.queue = a :: q → a.neverHeld = false) :
    step s = .next (engineStep s) := by
  cases hq : s.queue with
  | nil => exact step_engine (nextAgent_alone hrun hq)
  | cons a q => exact step_engine (nextAgent_held hrun hq (hheld a q hq))

end Agents

/-- Settles O6: an idle engine leaves the turn to the host, whose move takes the transaction off the queue. -/
theorem stepRunsIssuedInstruction : Obligations.StepRunsIssuedInstruction := by
  intro s w q hq hrun
  rw [step_bus (nextAgent_idle hrun hq), State.take_idle hrun hq]

/-- Settles O10: the step is the engine's (`step_engine_of_held`), and its effect on BFE is the completion of the
command in flight. -/
theorem engineCompletesCommand : Obligations.EngineCompletesCommand := by
  refine fun s => ⟨fun hrun hq => step_nobody (nextAgent_over hrun hq), fun hrun hheld => ?_⟩
  refine ⟨engineStep s, step_engine_of_held hrun hheld, rfl, rfl, fun h => ?_, fun h => ?_, fun h => ?_, fun h => ?_⟩
  · exact (complete_init h).trans (completeInit_eq s.bfe)
  · exact (complete_enc h).trans (completeEnc_eq s.bfe)
  · exact (complete_dec h).trans (completeDec_eq s.bfe)
  · exact (complete_zeroize h).trans s.bfe.wipe_eq_afterReset

/-- Settles O7: a held transaction does nothing (`exec_held`) and leaves the turn to the engine, after whose completion
an idle engine performs it. -/
theorem busyHoldsTransactions : Obligations.BusyHoldsTransactions := by
  refine ⟨fun s i hrun hi => exec_held hrun hi, fun s w q hrun hq hw => ?_, fun s d => exec_rd_status s,
    fun s hrun => by simp [Bfe.status_bit0, Bfe.busy, hrun]⟩
  have hheld : (HostAct.bus w).neverHeld = false := isStatusRead_eq_false.mpr hw
  refine ⟨engineStep s, step_engine (nextAgent_held hrun hq hheld), complete_run s.bfe, rfl, rfl, ?_⟩
  exact stepRunsIssuedInstruction (engineStep s) w q hq (complete_run s.bfe)

/-- Settles O9: the turn is contested (`nextAgent_contested`), and a read of `STATUS` goes through in any state. -/
theorem statusReadRacesCompletion : Obligations.StatusReadRacesCompletion := by
  intro s w q d hrun hq hw
  have hturn := nextAgent_contested hrun hq (isStatusRead_iff.mpr ⟨d, hw⟩ : (HostAct.bus w).neverHeld = true)
  split
  · rw [if_pos ‹_›] at hturn
    rw [step_bus hturn, hw, State.take_busy hrun hq]
    exact exec_rd_status _
  · rw [if_neg ‹_›] at hturn
    exact step_engine hturn

/-! ## Every command completes (20_memory.md R53) -/

/-- Every step answers a next state. -/
theorem step_total (s : State) : ∃ t, step s = .next t := by
  cases hturn : nextAgent s with
  | nobody => exact ⟨_, step_nobody hturn⟩
  | engine => exact ⟨_, step_engine hturn⟩
  | host a =>
    cases a with
    | bus w =>
      rw [step_bus hturn]
      exact exec_total _ _
    | wait => exact ⟨_, step_wait hturn⟩
    | rst => exact ⟨_, step_rst hturn⟩

theorem State.takeWait_queue_busy {s : State} (hrun : s.bfe.run ≠ .idle) : s.takeWait.queue = s.queue := by
  rw [State.takeWait, if_neg hrun, State.countMove_queue]

/-- A step under a running command: the engine completes it, a reset abandons it, or the host moves, uses up one of the
moves the schedule leaves it, and BFE stays as it is. -/
theorem step_busy {s t : State} (hrun : s.bfe.run ≠ .idle) (h : step s = .next t) :
    t = engineStep s ∨ (.rst ∈ s.queue ∧ t = resetStep s) ∨
      (s.polls < Config.busyReads s.epoch ∧ t.bfe = s.bfe ∧ t.epoch = s.epoch ∧ t.polls = s.polls + 1 ∧
        t.queue ⊆ s.queue) := by
  obtain ⟨-, hidle, -⟩ | ⟨-, rfl⟩ | ⟨w, q, -, hturn, hexec⟩ | ⟨q, -, hturn, rfl⟩ | ⟨q, hq, rfl⟩ := step_cases h
  · exact absurd hidle hrun
  · exact .inl rfl
  · obtain ⟨hqueue, hpolls, hepoch⟩ := exec_host hexec
    refine .inr (.inr ⟨(hturn.resolve_left hrun).2, exec_busy_bfe (s := s.take) hexec hrun, hepoch,
      hpolls.trans (if_neg hrun), ?_⟩)
    rw [hqueue, State.take_queue]
    exact List.tail_subset s.queue
  · refine .inr (.inr ⟨hturn.resolve_left hrun, State.takeWait_bfe s, State.takeWait_epoch s,
      (State.takeWait_polls s).trans (if_neg hrun), ?_⟩)
    rw [State.returnRead_queue, State.takeWait_queue_busy hrun]
    exact List.Subset.refl _
  · exact .inr (.inl ⟨by simp [hq], rfl⟩)

theorem core_run_one {s t : State} (h : step s = .next t) : Sys2Proof.core.run 1 s = .next t :=
  core_run_succ.mpr ⟨t, h, rfl⟩

/-- Settles O11, by induction on the moves the free schedule still leaves the host. -/
theorem everyCommandCompletes : Obligations.EveryCommandCompletes := by
  intro s hrun
  induction hn : Config.busyReads s.epoch - s.polls using Nat.strong_induction_on generalizing s with
  | _ n ih =>
  obtain ⟨u, hu⟩ := step_total s
  obtain rfl | ⟨hrst, rfl⟩ | ⟨hturn, hbfe, hepoch, hpolls, hqueue⟩ := step_busy hrun hu
  · exact ⟨1, _, by omega, core_run_one hu, complete_run s.bfe, fun _ => rfl⟩
  · exact ⟨1, _, by omega, core_run_one hu, rfl, fun hno => absurd rfl (hno _ hrst)⟩
  · have hleft : Config.busyReads u.epoch - u.polls < n := by
      rw [hepoch, hpolls]
      omega
    obtain ⟨k, t, hk, hkt, hidle, heffect⟩ := ih _ hleft u (hbfe ▸ hrun) rfl
    refine ⟨k + 1, t, by omega, core_run_succ.mpr ⟨u, hu, hkt⟩, hidle, fun hno => ?_⟩
    rw [← hbfe]
    exact heffect fun a ha => hno a (hqueue ha)

end Sys2Proof.Machine

/-!
PROOFS about the encodings (30_encoding.md): what each BUS word decodes to, the legal CMD words by arithmetic, the
dispatch of a CMD word check by check, what a command's issue changes, and the end of `WAIT`.
-/

namespace Sys2Proof

/-! ## Commands and their CMD words (30_encoding.md R74, R75) -/

section

variable {i j : Instr} {a : Addr} {v : Word}

/-- The CMD word tells the commands apart. -/
theorem encodeCmd_injective (hi : encodeCmd i = some v) (hj : encodeCmd j = some v) : i = j :=
  Except.ok.inj ((decodeCmd_ok.mpr hi).symm.trans (decodeCmd_ok.mpr hj))

theorem legalCmdWord_of_encodeCmd (h : encodeCmd i = some v) : LegalCmdWord v := by
  cases i with
  | rd a d => exact nomatch h
  | wr a w => exact nomatch h
  | init => exact .inl (Option.some.inj h).symm
  | enc => exact .inr (.inl (Option.some.inj h).symm)
  | dec => exact .inr (.inr (.inl (Option.some.inj h).symm))
  | zeroize => exact .inr (.inr (.inr (Option.some.inj h).symm))

/-- The BUS word of a command is the write of its CMD word to `CMD` (30_encoding.md R80). -/
theorem encode_of_encodeCmd (h : encodeCmd i = some v) : encode i = busWord true cmdAddr v := by
  cases i with
  | rd a d => exact nomatch h
  | wr a w => exact nomatch h
  | init => rw [← Option.some.inj h, encode]
  | enc => rw [← Option.some.inj h, encode]
  | dec => rw [← Option.some.inj h, encode]
  | zeroize => rw [← Option.some.inj h, encode]

theorem Instr.wf_of_encodeCmd (h : encodeCmd i = some v) : i.wf = true := by
  cases i with
  | rd a d => rfl
  | wr a w => exact nomatch h
  | init => rfl
  | enc => rfl
  | dec => rfl
  | zeroize => rfl

theorem Instr.wf_wr : (Instr.wr a v).wf = true ↔ ¬(a = cmdAddr ∧ LegalCmdWord v) := by
  simp [Instr.wf, imp_iff_not_or]

/-- The CMD decoder turns down exactly the words that are none of the four. -/
theorem decodeCmd_eq_illegal : decodeCmd v = .error .illegalCmdWord ↔ ¬LegalCmdWord v := by
  refine ⟨decodeCmd_error, fun hv => ?_⟩
  simp only [not_or] at hv
  simp [decodeCmd, hv]

/-- The illegal CMD words by arithmetic (30_encoding.md R75). -/
theorem not_legalCmdWord_iff :
    ¬LegalCmdWord v ↔ v.toNat / 256 ≠ 0 ∨ v.toNat % 256 < 1 ∨ 4 < v.toNat % 256 := by
  simp only [LegalCmdWord, cmdInit, cmdEnc, cmdDec, cmdZeroize, ← BitVec.toNat_inj, BitVec.toNat_ofNat]
  omega

/-! ## What a BUS word decodes to (30_encoding.md R70, R71) -/

theorem decode_busWord_rd (a : Addr) (d : Word) : decode (busWord false a d) = .rd a d := by
  obtain ⟨-, hd⟩ | ⟨hw, -⟩ | ⟨hw, -⟩ := decode_cases (busWord false a d)
  · simpa using hd
  · exact Bool.noConfusion ((busWord_we false a d).symm.trans hw)
  · exact Bool.noConfusion ((busWord_we false a d).symm.trans hw)

theorem decode_busWord_wr (h : ¬(a = cmdAddr ∧ LegalCmdWord v)) : decode (busWord true a v) = .wr a v := by
  obtain ⟨hw, -⟩ | ⟨-, -, hd⟩ | ⟨-, ha, hd⟩ := decode_cases (busWord true a v)
  · exact Bool.noConfusion ((busWord_we true a v).symm.trans hw)
  · simpa using hd
  · rw [busWord_addr] at ha
    rw [busWord_wdata] at hd
    exact absurd ⟨ha, legalCmdWord_of_encodeCmd hd⟩ h

theorem decode_busWord_cmd (h : encodeCmd i = some v) : decode (busWord true cmdAddr v) = i := by
  obtain ⟨hw, -⟩ | ⟨-, hno, -⟩ | ⟨-, -, hd⟩ := decode_cases (busWord true cmdAddr v)
  · exact Bool.noConfusion ((busWord_we true cmdAddr v).symm.trans hw)
  · rw [busWord_addr, busWord_wdata] at hno
    exact absurd ⟨rfl, legalCmdWord_of_encodeCmd h⟩ hno
  · rw [busWord_wdata] at hd
    exact encodeCmd_injective hd h

theorem decode_encode_cmd (h : encodeCmd i = some v) : decode (encode i) = i := by
  rw [encode_of_encodeCmd h, decode_busWord_cmd h]

end

/-- Settles O2: the two transactions by the fields of their BUS words, a command by its CMD word. -/
theorem decodeOfEncode : Obligations.DecodeOfEncode := by
  intro i hwf
  cases i with
  | rd a d => exact decode_busWord_rd a d
  | wr a v => exact decode_busWord_wr (Instr.wf_wr.mp hwf)
  | init => exact decode_encode_cmd (v := cmdInit) rfl
  | enc => exact decode_encode_cmd (v := cmdEnc) rfl
  | dec => exact decode_encode_cmd (v := cmdDec) rfl
  | zeroize => exact decode_encode_cmd (v := cmdZeroize) rfl

/-- Settles O3: each way a BUS word decodes (`decode_cases`) keeps its three fields. -/
theorem everyBusWordIsAnInstruction : Obligations.EveryBusWordIsAnInstruction := by
  intro w
  have hfields := busWord_of_fields w
  obtain ⟨hw, hd⟩ | ⟨hw, hno, hd⟩ | ⟨hw, ha, hd⟩ := decode_cases w
  · rw [hw] at hfields
    rw [hd]
    exact ⟨rfl, hfields⟩
  · rw [hw] at hfields
    rw [hd]
    exact ⟨Instr.wf_wr.mpr hno, hfields⟩
  · rw [hw, ha] at hfields
    exact ⟨Instr.wf_of_encodeCmd hd, (encode_of_encodeCmd hd).trans hfields⟩

/-- Settles O4: the accepted words by `decodeCmd_ok`, the others by arithmetic. -/
theorem cmdDecoderAcceptsFour : Obligations.CmdDecoderAcceptsFour :=
  fun _ => ⟨fun _ => decodeCmd_ok, decodeCmd_eq_illegal.trans not_legalCmdWord_iff⟩

/-- Settles O1: the decoder computes each word. -/
theorem listedWordsDecode : Obligations.ListedWordsDecode :=
  ⟨rfl, rfl, rfl, rfl, rfl, rfl, rfl, rfl, rfl, rfl, rfl, rfl, rfl, rfl⟩

end Sys2Proof

namespace Sys2Proof.Machine

/-! ## A table word as the host's next act (30_encoding.md R70) -/

/-- The BUS word that issues a table word decodes to what the table word stands for. -/
theorem decode_fetchWord {nbits w : Nat} {i : Instr} (h : decodeTableWord nbits w = some i) :
    decode (fetchWord nbits w) = i := by
  have hok : decodeSized nbits w = .ok i := by
    unfold decodeTableWord at h
    cases hd : decodeSized nbits w with
    | ok j =>
      rw [hd] at h
      rw [Option.some.inj h]
    | error r =>
      rw [hd] at h
      exact nomatch h
  unfold decodeSized at hok
  unfold fetchWord
  split_ifs at hok ⊢
  · exact decode_busWord_cmd (decodeCmd_ok.mp hok)
  · unfold decodeListing at hok
    split_ifs at hok
    exact Except.ok.inj hok

/-- Settles O5: an idle engine runs the BUS word at the head of the queue, which is the placed word's. -/
theorem placedTableWordRuns : Obligations.PlacedTableWordRuns := by
  intro s nbits w i hidle h
  rw [stepRunsIssuedInstruction (s.withFetchWord nbits w) (fetchWord nbits w) s.queue rfl hidle, decode_fetchWord h]
  rfl

/-- Settles O20: each command and its CMD word. -/
theorem commandIsItsCmdWrite : Obligations.CommandIsItsCmdWrite :=
  fun s => ⟨exec_command_eq_wr rfl s, exec_command_eq_wr rfl s, exec_command_eq_wr rfl s, exec_command_eq_wr rfl s⟩

/-! ## Dispatch, check by check (30_encoding.md R73) -/

section Dispatch

variable {b : Bfe} {v : Word}

/-- An idle engine dispatches the word written to `CMD`. -/
theorem exec_wr_cmd {s : State} (v : Word) (hidle : s.bfe.run = .idle) :
    exec (.wr 1#6 v) s = .next (s.withBfe (dispatch v s.bfe)) :=
  whenIdle_idle (f := busWrite 1#6 v) hidle

/-- An illegal CMD word is latched as such (30_encoding.md R75). -/
theorem dispatch_illegal (he : b.err = false) (hv : ¬LegalCmdWord v) : dispatch v b = b.raise .illegalCmd := by
  simp only [not_or] at hv
  simp [dispatch_noError he, hv]

/-- In the error state an illegal CMD word has no effect (30_encoding.md R75). -/
theorem dispatch_illegal_error (he : b.err = true) (hv : ¬LegalCmdWord v) : dispatch v b = b := by
  simp only [not_or] at hv
  simp [dispatch_error he, hv]

/-- A command issued without an error goes to its admission. -/
theorem unlessError_noError {f : Bfe → Bfe} (he : b.err = false) : b.unlessError f = f b :=
  if_neg (by simp [he])

/-- The admission of INIT by the bounds of its length (40_init.md R91). -/
theorem admitInit_eq (b : Bfe) :
    admitInit b =
      if b.keyLen.toNat < 4 ∨ 56 < b.keyLen.toNat then { b with err := true, errCode := 1#4 }
      else { b with keyValid := false, run := .init } := by
  split
  · exact admitInit_illegal (by simp only [LegalKeyLen, Config.keyMin, Config.keyMax]; omega)
  · exact admitInit_legal (by simp only [LegalKeyLen, Config.keyMin, Config.keyMax]; omega)

theorem eq_cmdZeroize_iff : v = cmdZeroize ↔ v.toNat = 4 := by
  rw [← BitVec.toNat_inj, cmdZeroize, BitVec.toNat_ofNat]

/-- Dispatch as the chain of checks of the rule, by the value of the word. -/
theorem dispatch_eq (v : Word) (b : Bfe) :
    dispatch v b =
      if b.err then (if v.toNat = 4 then { b with run := .zeroize } else b)
      else if v.toNat / 256 ≠ 0 ∨ v.toNat % 256 < 1 ∨ 4 < v.toNat % 256 then { b with err := true, errCode := 3#4 }
      else if v.toNat = 1 then
        (if b.keyLen.toNat < 4 ∨ 56 < b.keyLen.toNat then { b with err := true, errCode := 1#4 }
         else { b with keyValid := false, run := .init })
      else if v.toNat = 2 then
        (if b.keyValid then { b with run := .enc } else { b with err := true, errCode := 2#4 })
      else if v.toNat = 3 then
        (if b.keyValid then { b with run := .dec } else { b with err := true, errCode := 2#4 })
      else { b with run := .zeroize } := by
  by_cases he : b.err = true
  · rw [if_pos he, dispatch_error he]
    simp only [eq_cmdZeroize_iff]
    rfl
  rw [if_neg he]
  replace he : b.err = false := Bool.eq_false_of_not_eq_true he
  by_cases hv : LegalCmdWord v
  · rw [if_neg (not_legalCmdWord_iff.not.mp (not_not.mpr hv))]
    obtain rfl | rfl | rfl | rfl := hv
    · rw [dispatch_cmdInit, unlessError_noError he, admitInit_eq]
      rfl
    · rw [dispatch_cmdEnc, unlessError_noError he]
      rfl
    · rw [dispatch_cmdDec, unlessError_noError he]
      rfl
    · rw [dispatch_cmdZeroize]
      rfl
  · rw [if_pos (not_legalCmdWord_iff.mp hv), dispatch_illegal he hv]
    rfl

end Dispatch

/-- Settles O19: the chain of checks is `dispatch_eq`. -/
theorem commandDispatch : Obligations.CommandDispatch := by
  intro s v hidle
  rw [exec_wr_cmd v hidle, dispatch_eq]
  rfl

/-- Settles O43: the word is none of the four, so dispatch latches it, or ignores it in the error state. -/
theorem illegalCommandLatched : Obligations.IllegalCommandLatched := by
  intro s v hidle hv
  have hno : ¬LegalCmdWord v := not_legalCmdWord_iff.mpr hv
  rw [exec_wr_cmd v hidle]
  refine ⟨fun he => ?_, fun he => ?_⟩
  · rw [dispatch_illegal he hno]
    rfl
  · rw [dispatch_illegal_error he hno]
    rfl

/-! ## What the issue of a command changes (30_encoding.md R73) -/

/-- What the issue of a command can do to BFE: nothing; an error latched, not by ZEROIZE; `RUN` set; and, by INIT,
`KEY_VALID` cleared with it. -/
inductive IssueEffect (i : Instr) (b : Bfe) : Bfe → Prop where
  | same : IssueEffect i b b
  | raise (c : ErrCause) (hi : i ≠ .zeroize) : IssueEffect i b (b.raise c)
  | start (r : Run) : IssueEffect i b (b.withRun r)
  | startInit (hi : i = .init) : IssueEffect i b ((b.withKeyValid false).withRun .init)

section Issue

variable {i : Instr} {b b' : Bfe} {s t : State}

theorem IssueEffect.unlessError {f : Bfe → Bfe} (h : IssueEffect i b (f b)) : IssueEffect i b (b.unlessError f) := by
  unfold Bfe.unlessError
  split
  · exact .same
  · exact h

theorem IssueEffect.admitInit (b : Bfe) : IssueEffect .init b (admitInit b) := by
  unfold Machine.admitInit
  split
  · exact .startInit rfl
  · exact .raise _ (by decide)

theorem IssueEffect.needKey (hi : i ≠ .zeroize) (b : Bfe) (r : Run) :
    IssueEffect i b (b.needKey (·.withRun r)) := by
  unfold Bfe.needKey
  split
  · exact .start r
  · exact .raise _ hi

theorem IssueEffect.whenIdle {f : Bfe → Bfe} (hf : ∀ b, IssueEffect i b (f b)) (h : whenIdle f s = .next t) :
    ∃ b, IssueEffect i s.bfe b ∧ t = s.withBfe b := by
  obtain ⟨-, rfl⟩ | ⟨-, rfl⟩ := whenIdle_cases h
  · exact ⟨_, .same, rfl⟩
  · exact ⟨_, hf _, rfl⟩

/-- The issue of a command changes BFE as `IssueEffect` says and nothing of the host's. -/
theorem exec_command_effect (hi : i = .init ∨ i = .enc ∨ i = .dec ∨ i = .zeroize) (h : exec i s = .next t) :
    ∃ b, IssueEffect i s.bfe b ∧ t = s.withBfe b := by
  obtain rfl | rfl | rfl | rfl := hi
  · exact IssueEffect.whenIdle (fun b => (IssueEffect.admitInit b).unlessError) h
  · exact IssueEffect.whenIdle (fun b => (IssueEffect.needKey (by decide) b .enc).unlessError) h
  · exact IssueEffect.whenIdle (fun b => (IssueEffect.needKey (by decide) b .dec).unlessError) h
  · exact IssueEffect.whenIdle (fun b => .start .zeroize) h

end Issue

/-- Settles O24: each case of `IssueEffect` changes the flags it names and nothing else. -/
theorem commandIssueFrame : Obligations.CommandIssueFrame := by
  intro s t i hi h
  obtain ⟨b, hb, rfl⟩ := exec_command_effect hi h
  cases hb with
  | same => exact ⟨rfl, rfl, rfl, rfl, rfl, rfl, rfl, fun _ => rfl, fun _ => ⟨rfl, rfl⟩, fun _ => ⟨rfl, rfl⟩⟩
  | raise c hz =>
    exact ⟨rfl, rfl, rfl, rfl, rfl, rfl, rfl, fun _ => rfl, fun hi => absurd hi hz, fun _ => ⟨rfl, rfl⟩⟩
  | start r =>
    exact ⟨rfl, rfl, rfl, rfl, rfl, rfl, rfl, fun _ => rfl, fun _ => ⟨rfl, rfl⟩,
      fun hne => hne.elim (absurd rfl) (absurd rfl)⟩
  | startInit hinit =>
    exact ⟨rfl, rfl, rfl, rfl, rfl, rfl, rfl, fun hi => absurd hinit hi, fun _ => ⟨rfl, rfl⟩,
      fun hne => hne.elim (absurd rfl) (absurd rfl)⟩

/-! ## `WAIT` (30_encoding.md R80, 20_memory.md R53) -/

section Wait

variable {s : State} {q : List HostAct}

/-- With the engine idle `WAIT` makes its last read. -/
theorem step_wait_idle (hq : s.queue = .wait :: q) (hidle : s.bfe.run = .idle) :
    step s = .next { s with queue := q, polls := 0, reads := s.reads ++ [s.bfe.status] } := by
  rw [step_wait (nextAgent_idle hidle hq), State.takeWait, if_pos hidle, State.take_idle hidle hq]
  rfl

/-- Under a running command, and before the engine's step, `WAIT` reads `STATUS` once more. -/
theorem step_wait_poll (hq : s.queue = .wait :: q) (hrun : s.bfe.run ≠ .idle)
    (hpolls : s.polls < Config.busyReads s.epoch) :
    step s = .next { s with polls := s.polls + 1, reads := s.reads ++ [s.bfe.status] } := by
  have hturn : nextAgent s = .host .wait := (nextAgent_contested hrun hq rfl).trans (if_pos hpolls)
  rw [step_wait hturn, State.takeWait, if_neg hrun, State.countMove, if_neg hrun]
  rfl

/-- Once the schedule leaves the host no more moves, `WAIT` meets the engine's step. -/
theorem step_wait_completion (hq : s.queue = .wait :: q) (hrun : s.bfe.run ≠ .idle)
    (hpolls : ¬s.polls < Config.busyReads s.epoch) : step s = .next (engineStep s) :=
  step_engine ((nextAgent_contested hrun hq rfl).trans (if_neg hpolls))

theorem status_bit0_idle {b : Bfe} (h : b.run = .idle) : b.status.getLsbD 0 = false := by
  rw [Bfe.status_bit0, Bfe.busy, h]
  rfl

theorem status_bit0_busy {b : Bfe} (h : b.run ≠ .idle) : b.status.getLsbD 0 = true := by
  simp [Bfe.status_bit0, Bfe.busy, h]

end Wait

/-- Settles O14, by induction on the moves the free schedule still leaves the host: each is one more read with
`BUSY = 1`, then the engine completes, and the read after that is the last. -/
theorem waitEndsIdle : Obligations.WaitEndsIdle := by
  intro s q hq
  induction hn : Config.busyReads s.epoch - s.polls using Nat.strong_induction_on generalizing s with
  | _ n ih =>
  by_cases hidle : s.bfe.run = .idle
  · exact ⟨1, _, [], s.bfe.status, by omega, core_run_one (step_wait_idle hq hidle), rfl, hidle,
      (complete_idle hidle).symm, by simp, status_bit0_idle hidle, by simp⟩
  by_cases hpolls : s.polls < Config.busyReads s.epoch
  · have hstep := step_wait_poll hq hidle hpolls
    obtain ⟨k, t, l, v, hk, hrun, hqueue, htidle, hbfe, hreads, hv, hl⟩ := ih _ (by dsimp only; omega)
      { s with polls := s.polls + 1, reads := s.reads ++ [s.bfe.status] } hq rfl
    replace hk : k ≤ Config.busyReads s.epoch - (s.polls + 1) + 2 := hk
    refine ⟨k + 1, t, s.bfe.status :: l, v, by omega, core_run_succ.mpr ⟨_, hstep, hrun⟩, hqueue, htidle, hbfe, ?_,
      hv, List.forall_mem_cons.mpr ⟨status_bit0_busy hidle, hl⟩⟩
    rw [hreads]
    simp
  · have hdone : (engineStep s).bfe.run = .idle := complete_run s.bfe
    have hrun := core_run_succ.mpr ⟨_, step_wait_completion hq hidle hpolls, core_run_one (step_wait_idle hq hdone)⟩
    exact ⟨2, _, [], _, by omega, hrun, rfl, hdone, rfl, by simp, status_bit0_idle hdone, by simp⟩

end Sys2Proof.Machine

/-!
PROOFS about INIT (40_init.md): what it does at issue and at completion, what its key schedule reads of the key, and the
schedule as one chain of 521 encryptions.
-/

namespace Sys2Proof.Machine

/-! ## Issue and completion (40_init.md R91, R96, R97) -/

section Init

variable {s : State}

/-- An idle engine without an error puts INIT to its admission. -/
theorem exec_init_admits (hidle : s.bfe.run = .idle) (he : s.bfe.err = false) :
    exec .init s = .next (s.withBfe (admitInit s.bfe)) := by
  rw [exec_init, whenIdle_idle hidle, unlessError_noError he]

/-- INIT with a length outside 4..56 latches error 1 (40_init.md R91). -/
theorem exec_init_refused (hidle : s.bfe.run = .idle) (he : s.bfe.err = false)
    (hlen : s.bfe.keyLen.toNat < 4 ∨ 56 < s.bfe.keyLen.toNat) :
    exec .init s = .next { s with bfe := { s.bfe with err := true, errCode := 1#4 } } := by
  rw [exec_init_admits hidle he, admitInit_eq, if_pos hlen]
  rfl

/-- INIT with a length in 4..56 starts (40_init.md R96). -/
theorem exec_init_accepted (hidle : s.bfe.run = .idle) (he : s.bfe.err = false)
    (hlen : 4 ≤ s.bfe.keyLen.toNat ∧ s.bfe.keyLen.toNat ≤ 56) :
    exec .init s = .next { s with bfe := { s.bfe with keyValid := false, run := .init } } := by
  rw [exec_init_admits hidle he, admitInit_eq, if_neg (by omega)]
  rfl

end Init

/-- Settles O26: the two answers of the admission check. -/
theorem initChecksKeyLength : Obligations.InitChecksKeyLength :=
  fun _ hidle he => ⟨exec_init_refused hidle he, exec_init_accepted hidle he⟩

/-- Settles O25: INIT starts (`exec_init_accepted`), and its completion is `completeInit` of the key registers at issue,
which leaves `RUN` idle as it was before. -/
theorem initBuildsCipherState : Obligations.InitBuildsCipherState := by
  intro s hidle he hmin hmax
  refine ⟨_, exec_init_accepted hidle he ⟨hmin, hmax⟩, rfl, ?_, rfl, rfl⟩
  rw [engineStep_bfe, complete_init rfl, completeInit_eq]
  simp only [hidle]

/-! ## The key in the schedule (40_init.md R93, R95, R99) -/

section Key

variable {n n' : Nat} {key key' : Vector Word 14}

theorem subkey_mixKey (n : Nat) (key : Vector Word 14) (c : CipherState) (j : Fin 18) :
    (mixKey n key c).subkey j = c.subkey j ^^^ keyWord n key j.val :=
  Vector.getElem_ofFn j.isLt

theorem entry_mixKey (n : Nat) (key : Vector Word 14) (c : CipherState) (k : Fin 4) (i : Fin 256) :
    (mixKey n key c).entry k i = c.entry k i := rfl

/-- The 18 words of the key XOR read the first 72 bytes of the cyclic expansion of the key. -/
theorem keyWord_congr (h : ∀ i, i < 72 → keyByte key (i % n) = keyByte key' (i % n')) {j : Nat} (hj : j < 18) :
    keyWord n key j = keyWord n' key' j := by
  rw [keyWord, h _ (by omega), h _ (by omega), h _ (by omega), h _ (by omega), keyWord]

/-- The key XOR is a function of the 72-byte cyclic expansion. -/
theorem mixKey_congr (h : ∀ i, i < 72 → keyByte key (i % n) = keyByte key' (i % n')) (c : CipherState) :
    mixKey n key c = mixKey n' key' c := by
  refine CipherState.ext_words (fun j => ?_) fun k i => ?_
  · rw [subkey_mixKey, subkey_mixKey, keyWord_congr h j.isLt]
  · rw [entry_mixKey, entry_mixKey]

end Key

/-- Settles O29: the word mixed into `P[j]` is `keyWord`, its value the sum of its four bytes (`wordOf_toNat`). -/
theorem keyXorStep : Obligations.KeyXorStep := by
  intro n key c
  refine ⟨rfl, fun j => ⟨keyWord n key j.val, subkey_mixKey n key c j, ?_⟩⟩
  rw [keyWord, wordOf_toNat]

theorem keySchedule_eq (n : BitVec 8) (key : Vector Word 14) :
    keySchedule n key = (replaceAll (mixKey n.toNat key CipherState.constants)).1 := by
  unfold keySchedule
  rfl

/-- Settles O32: the key enters the schedule by the key XOR alone, which reads the 72-byte expansion alone. -/
theorem equalExpansionsEqualSchedules : Obligations.EqualExpansionsEqualSchedules := by
  intro n n' k k' h
  rw [keySchedule_eq, keySchedule_eq, mixKey_congr h]

/-- Settles O31: the expansion to 72 bytes takes its positions modulo the length, so it repeats the bytes below it. -/
theorem scheduleReadsOnlyTheKey : Obligations.ScheduleReadsOnlyTheKey :=
  fun n k k' hn h => equalExpansionsEqualSchedules n n k k' fun i _ => h (i % n.toNat) (Nat.mod_lt i hn)

/-! ## The replacement chain (40_init.md R94) -/

/-- A fold over `0 .. n-1` whose every move follows the sequence `f` ends at `f n`. -/
theorem foldl_finRange_eq {β : Type} (f : Nat → β) {n : Nat} {g : β → Fin n → β}
    (h : ∀ t : Fin n, g (f t.val) t = f (t.val + 1)) : (List.finRange n).foldl g (f 0) = f n := by
  induction n with
  | zero => rfl
  | succ n ih =>
    rw [List.finRange_succ_last, List.foldl_append, List.foldl_map, ih fun t => h t.castSucc]
    exact h (Fin.last n)

/-- Encryption `m` of the chain: `P` takes the first 9, then each box 128 in turn. -/
def replacePair (m : Nat) (w : CipherState × Block) : CipherState × Block :=
  if h : m < 9 then replaceP w ⟨m, h⟩
  else replaceS (Fin.ofNat 4 ((m - 9) / 128)) w ⟨(m - 9) % 128, Nat.mod_lt _ (by decide)⟩

/-- The cipher state and the running block after the first `m` encryptions, from `c` and the all-zero block. -/
def replaceChain (c : CipherState) : Nat → CipherState × Block
  | 0 => (c, (0#32, 0#32))
  | m + 1 => replacePair m (replaceChain c m)

theorem replacePair_of_P (w : CipherState × Block) (t : Fin 9) : replacePair t.val w = replaceP w t :=
  dif_pos t.isLt

theorem replacePair_of_S (w : CipherState × Block) (k : Fin 4) (t : Fin 128) :
    replacePair (9 + 128 * k.val + t.val) w = replaceS k w t := by
  have hk : Fin.ofNat 4 ((9 + 128 * k.val + t.val - 9) / 128) = k := by
    apply Fin.ext
    simp only [Fin.val_ofNat]
    omega
  have ht : (9 + 128 * k.val + t.val - 9) % 128 = t.val := by omega
  rw [replacePair, dif_neg (by omega)]
  simp only [hk, ht]

/-- The 128 encryptions of box `k` are the next stretch of the chain. -/
theorem replaceBox_replaceChain (c : CipherState) (k : Fin 4) :
    replaceBox (replaceChain c (9 + 128 * k.val)) k = replaceChain c (9 + 128 * (k.val + 1)) :=
  foldl_finRange_eq (fun t => replaceChain c (9 + 128 * k.val + t)) fun t => (replacePair_of_S _ k t).symm

/-- Step 3 is the whole chain. -/
theorem replaceAll_eq_replaceChain (c : CipherState) : replaceAll c = replaceChain c 521 := by
  have hP : (List.finRange 9).foldl replaceP (c, (0#32, 0#32)) = replaceChain c 9 :=
    foldl_finRange_eq (replaceChain c) fun t => (replacePair_of_P _ t).symm
  rw [replaceAll, hP]
  exact foldl_finRange_eq (fun k => replaceChain c (9 + 128 * k)) (replaceBox_replaceChain c)

/-- Words 0..17 are `P`. -/
theorem CipherState.word_setP (c : CipherState) (j : Fin 18) (v : Word) (i : Fin 1042) :
    (c.setP j v).word i = if i.val = j.val then v else c.word i := by
  unfold CipherState.word
  split
  · simp only [CipherState.subkey_setP, Fin.ext_iff, eq_comm]
  · rw [if_neg (by omega), CipherState.entry_setP]

/-- Words 18..1041 are the boxes, 256 each. -/
theorem CipherState.word_setS (c : CipherState) (k : Fin 4) (e : Fin 256) (v : Word) (i : Fin 1042) :
    (c.setS k e v).word i = if i.val = 18 + 256 * k.val + e.val then v else c.word i := by
  unfold CipherState.word
  split
  · rw [if_neg (by omega), CipherState.subkey_setS]
  · rw [CipherState.entry_setS]
    simp only [Fin.ext_iff]
    exact if_congr (by omega) rfl rfl

theorem replacePair_block (m : Nat) (w : CipherState × Block) : (replacePair m w).2 = encBlock w.1 w.2 := by
  unfold replacePair
  split <;> rfl

/-- Encryption `m` replaces words `2m` and `2m+1` by the halves of its result. -/
theorem replacePair_word {m : Nat} (hm : m < 521) (w : CipherState × Block) (i : Fin 1042) :
    (replacePair m w).1.word i =
      if i.val = 2 * m then (encBlock w.1 w.2).1 else if i.val = 2 * m + 1 then (encBlock w.1 w.2).2
      else w.1.word i := by
  by_cases hP : m < 9
  · rw [replacePair_of_P w ⟨m, hP⟩, replaceP, CipherState.word_setP, CipherState.word_setP]
    exact ite_ite_comm _ _ _ _ fun (h : i.val = 2 * m + 1) (h' : i.val = 2 * m) => by omega
  · obtain ⟨k, t, rfl⟩ : ∃ (k : Fin 4) (t : Fin 128), m = 9 + 128 * k.val + t.val :=
      ⟨⟨(m - 9) / 128, by omega⟩, ⟨(m - 9) % 128, by omega⟩, by dsimp only; omega⟩
    have hl : 18 + 256 * k.val + 2 * t.val = 2 * (9 + 128 * k.val + t.val) := by omega
    have hr : 18 + 256 * k.val + (2 * t.val + 1) = 2 * (9 + 128 * k.val + t.val) + 1 := by omega
    rw [replacePair_of_S, replaceS, CipherState.word_setS, CipherState.word_setS, hl, hr]
    exact ite_ite_comm _ _ _ _ fun h => by omega

theorem replaceChain_block (c : CipherState) (m : Nat) :
    (replaceChain c (m + 1)).2 = encBlock (replaceChain c m).1 (replaceChain c m).2 :=
  replacePair_block m (replaceChain c m)

theorem replaceChain_word (c : CipherState) {m : Nat} (hm : m < 521) (i : Fin 1042) :
    (replaceChain c (m + 1)).1.word i =
      if i.val = 2 * m then (replaceChain c (m + 1)).2.1
      else if i.val = 2 * m + 1 then (replaceChain c (m + 1)).2.2 else (replaceChain c m).1.word i := by
  rw [replaceChain_block]
  exact replacePair_word hm (replaceChain c m) i

/-- Settles O30: `replaceChain` from the key-mixed constants, which is all of step 3 (`replaceAll_eq_replaceChain`). -/
theorem scheduleIsReplacementChain : Obligations.ScheduleIsReplacementChain := by
  intro n key
  refine ⟨fun m => (replaceChain (mixKey n.toNat key CipherState.constants) m).1,
    fun m => (replaceChain (mixKey n.toNat key CipherState.constants) m).2, rfl, rfl,
    fun m hm => ⟨replaceChain_block _ m, replaceChain_word _ hm⟩, ?_⟩
  rw [keySchedule_eq, replaceAll_eq_replaceChain]

end Sys2Proof.Machine

/-!
PROOFS about the constants (41_init_constants.md): the checks the spec gives with each table, and from them the checks
over all 1042 words.
-/

namespace Sys2Proof.Machine

/-! ## The checks under each table (41_init_constants.md R111 to R115) -/

theorem pInit_xor_sum :
    pInit.toList.foldl (· ^^^ ·) 0#32 = 0xB73AD7EA#32 ∧ pInit.toList.foldl (· + ·) 0#32 = 0x8E4D14CC#32 := by
  decide +kernel

theorem sInit0_xor_sum :
    sInit0.toList.foldl (· ^^^ ·) 0#32 = 0x4EB4DB7F#32 ∧ sInit0.toList.foldl (· + ·) 0#32 = 0x4B745115#32 := by
  decide +kernel

theorem sInit1_xor_sum :
    sInit1.toList.foldl (· ^^^ ·) 0#32 = 0xC727E122#32 ∧ sInit1.toList.foldl (· + ·) 0#32 = 0x72FF37B2#32 := by
  decide +kernel

theorem sInit2_xor_sum :
    sInit2.toList.foldl (· ^^^ ·) 0#32 = 0x462A5D01#32 ∧ sInit2.toList.foldl (· + ·) 0#32 = 0x2AC02B91#32 := by
  decide +kernel

theorem sInit3_xor_sum :
    sInit3.toList.foldl (· ^^^ ·) 0#32 = 0x1779E2BC#32 ∧ sInit3.toList.foldl (· + ·) 0#32 = 0xF43E3A88#32 := by
  decide +kernel

/-! ## All 1042 words (41_init_constants.md R116) -/

theorem CipherState.constants_words :
    constants.p.toList ++ constants.sbox.toList.flatMap Vector.toList =
      pInit.toList ++ (sInit0.toList ++ (sInit1.toList ++ (sInit2.toList ++ sInit3.toList))) := by
  simp [constants]

/-- An associative operation with `0` as its unit folds two lists one by one. -/
theorem foldl_append_eq_op {op : Word → Word → Word} [Std.Associative op] [Std.LawfulRightIdentity op 0#32]
    (l l' : List Word) : (l ++ l').foldl op 0#32 = op (l.foldl op 0#32) (l'.foldl op 0#32) := by
  rw [List.foldl_append, ← List.foldl_assoc (op := op), Std.LawfulRightIdentity.right_id (op := op)]

/-- The words of all tables have the exclusive-or and sum of the tables' own exclusive-ors and sums. -/
theorem CipherState.constants_xor_sum :
    (constants.p.toList ++ constants.sbox.toList.flatMap Vector.toList).foldl (· ^^^ ·) 0#32 = 0x6FFA520A#32 ∧
    (constants.p.toList ++ constants.sbox.toList.flatMap Vector.toList).foldl (· + ·) 0#32 = 0x6BBF03AC#32 := by
  simp only [constants_words, foldl_append_eq_op, pInit_xor_sum, sInit0_xor_sum, sInit1_xor_sum, sInit2_xor_sum,
    sInit3_xor_sum]
  decide

theorem pInit_nodup : pInit.toList.Nodup := by decide +kernel

/-- Settles O27: the checks of the five tables put together; the number of words is in the tables' types. -/
theorem constantTablesMeetChecks : Obligations.ConstantTablesMeetChecks := by
  have hlength : (CipherState.constants.p.toList ++
      CipherState.constants.sbox.toList.flatMap Vector.toList).length = 1042 := by
    simp [CipherState.constants_words]
  obtain ⟨hxor, hsum⟩ := CipherState.constants_xor_sum
  exact ⟨hlength, hxor, hsum, pInit_nodup⟩

end Sys2Proof.Machine

/-!
PROOFS about ENC and DEC (42_encdec.md): the value of the round function, encryption as its recurrence, decryption as
encryption with the subkeys reversed, the inverse law, and the two commands at issue and at completion.
-/

namespace Sys2Proof.Machine

/-! ## The round function (42_encdec.md R121) -/

/-- The four bytes of a word whose value is given in base 256, as S-box indices. -/
theorem sboxIndex_byteOf {x : Word} {i₀ i₁ i₂ i₃ : Fin 256}
    (h : x.toNat = i₀.val * 2 ^ 24 + i₁.val * 2 ^ 16 + i₂.val * 2 ^ 8 + i₃.val) :
    sboxIndex (byteOf x 0) = i₀ ∧ sboxIndex (byteOf x 1) = i₁ ∧ sboxIndex (byteOf x 2) = i₂ ∧
      sboxIndex (byteOf x 3) = i₃ := by
  simp only [Fin.ext_iff, sboxIndex, byteOf_toNat, h]
  omega

/-- Settles O33: the bytes of `x` are the given indices (`sboxIndex_byteOf`), and the value of each operation on words
is that operation on their values, a sum modulo `2^32`. -/
theorem roundFunctionValue : Obligations.RoundFunctionValue := by
  intro c x i₀ i₁ i₂ i₃ hx
  obtain ⟨h₀, h₁, h₂, h₃⟩ := sboxIndex_byteOf hx
  rw [roundF, h₀, h₁, h₂, h₃, BitVec.toNat_add, BitVec.toNat_xor, BitVec.toNat_add]

/-! ## Encryption as its recurrence (42_encdec.md R123) -/

/-- Settles O34: the pair `(L_i, R_i)` is what the first `i` rounds make of the block. -/
theorem encBlockRecurrence : Obligations.EncBlockRecurrence := by
  intro c L R h
  have hround (i : Fin 16) :
      feistelRound c (L i.val, R i.val) (c.subkey ⟨i.val, by omega⟩) = (L (i.val + 1), R (i.val + 1)) := by
    obtain ⟨hR, hL⟩ := h i
    rw [feistelRound, hL, hR]
  have hrounds : feistelRounds c (encSubkeys c) (L 0, R 0) = (L 16, R 16) := by
    rw [feistelRounds, encSubkeys, List.foldl_map]
    exact foldl_finRange_eq (fun i => (L i, R i)) hround
  rw [encBlock, hrounds]

/-! ## Decryption as encryption with the subkeys reversed (42_encdec.md R126) -/

/-- The rounds read `P` only through the subkeys they are given. -/
theorem feistelRounds_congr {c c' : CipherState} (h : c'.sbox = c.sbox) (ks : List Word) (x : Block) :
    feistelRounds c' ks x = feistelRounds c ks x := by
  obtain ⟨p, sbox⟩ := c
  obtain ⟨p', sbox'⟩ := c'
  obtain rfl : sbox' = sbox := h
  rfl

/-- Settles O35: the two run the same rounds under the same 16 subkeys, and their last two subkeys agree. -/
theorem decBlockIsReversedEncBlock : Obligations.DecBlockIsReversedEncBlock := by
  intro c c' x hp hsbox
  have hks : encSubkeys c' = decSubkeys c := List.map_congr_left fun i _ => hp ⟨i.val, by omega⟩
  have h16 : c'.subkey 16 = c.subkey 1 := hp 16
  have h17 : c'.subkey 17 = c.subkey 0 := hp 17
  rw [encBlock, decBlock, feistelRounds_congr hsbox, hks, h16, h17]

/-- The same boxes under the subkeys in the opposite order. -/
def CipherState.reversed (c : CipherState) : CipherState :=
  { c with p := Vector.ofFn fun j => c.subkey ⟨17 - j.val, by omega⟩ }

theorem CipherState.subkey_reversed (c : CipherState) (j : Fin 18) :
    c.reversed.subkey j = c.subkey ⟨17 - j.val, by omega⟩ :=
  Vector.getElem_ofFn j.isLt

theorem decBlock_eq_encBlock_reversed (c : CipherState) (x : Block) : decBlock c x = encBlock c.reversed x :=
  decBlockIsReversedEncBlock c c.reversed x c.subkey_reversed rfl

theorem encBlock_eq_decBlock_reversed (c : CipherState) (x : Block) : encBlock c x = decBlock c.reversed x := by
  refine (decBlockIsReversedEncBlock c.reversed c x (fun j => ?_) rfl).symm
  rw [CipherState.subkey_reversed]
  exact congrArg c.subkey (Fin.ext (by dsimp only; omega))

/-! ## The inverse law (42_encdec.md R127) -/

/-- The rounds under `ks` in the opposite order undo those under `k :: ks`, all but the mixing of `k`; the last subkey,
which the forward rounds leave out, is the one that is mixed in between. -/
theorem feistelRounds_reverse (c : CipherState) (k : Word) (ks : List Word) (x : Block) :
    feistelRounds c ks.reverse
        (mixedLeft c ((k :: ks).getLast (List.cons_ne_nil k ks)) (feistelRounds c (k :: ks).dropLast x)) =
      mixedLeft c k x := by
  induction ks generalizing k x with
  | nil => rfl
  | cons k' ks ih =>
    rw [List.reverse_cons, feistelRounds_append, List.getLast_cons (List.cons_ne_nil k' ks), List.dropLast_cons_cons,
      feistelRounds_cons c k, ih k' (feistelRound c x k)]
    exact feistelRound_mixedLeft c k' k x

/-- `P[2], .., P[16]`: decryption uses them all after its first round, in the opposite order; encryption uses all but the
last after its first two rounds. -/
def CipherState.innerSubkeys (c : CipherState) : List Word :=
  (List.finRange 15).map fun i => c.subkey ⟨i.val + 2, by omega⟩

theorem encSubkeys_eq_inner (c : CipherState) :
    encSubkeys c = c.subkey 0 :: (c.subkey 1 :: c.innerSubkeys).dropLast := rfl

theorem decSubkeys_eq_inner (c : CipherState) : decSubkeys c = c.subkey 17 :: c.innerSubkeys.reverse := rfl

theorem CipherState.innerSubkeys_getLast (c : CipherState) :
    (c.subkey 1 :: c.innerSubkeys).getLast (List.cons_ne_nil _ _) = c.subkey 16 := rfl

theorem xor_xor_cancel_right (a b : Word) : a ^^^ b ^^^ b = a := by
  rw [BitVec.xor_assoc, BitVec.xor_self, BitVec.xor_zero]

/-- The first round of one direction takes off the output step of the other, all but the mixing of one subkey. -/
theorem feistelRound_outputStep (c : CipherState) (k k' : Word) (y : Block) :
    feistelRound c (y.2 ^^^ k', y.1 ^^^ k) k' = mixedLeft c k y := by
  rw [feistelRound, mixedLeft, xor_xor_cancel_right]

/-- The output step of one direction takes off the first round of the other and the mixing that is left. -/
theorem outputStep_mixedLeft (c : CipherState) (k k' : Word) (x : Block) :
    ((mixedLeft c k (feistelRound c x k')).2 ^^^ k', (mixedLeft c k (feistelRound c x k')).1 ^^^ k) = x := by
  obtain ⟨l, r⟩ := x
  have hleft (f : Word) : r ^^^ f ^^^ k ^^^ f ^^^ k = r := by
    rw [BitVec.xor_assoc r, BitVec.xor_assoc _ f, xor_xor_cancel_right]
  simp only [mixedLeft, feistelRound, xor_xor_cancel_right, hleft]

/-- The 16 rounds of decryption, after encryption, leave the first round and the mixing of `P[1]` to be undone. -/
theorem feistelRounds_decSubkeys_encBlock (c : CipherState) (x : Block) :
    feistelRounds c (decSubkeys c) (encBlock c x) = mixedLeft c (c.subkey 1) (feistelRound c x (c.subkey 0)) := by
  rw [decSubkeys_eq_inner, feistelRounds_cons, encBlock, feistelRound_outputStep, encSubkeys_eq_inner,
    feistelRounds_cons, ← c.innerSubkeys_getLast, feistelRounds_reverse]

theorem decBlock_encBlock (c : CipherState) (x : Block) : decBlock c (encBlock c x) = x := by
  rw [decBlock, feistelRounds_decSubkeys_encBlock]
  exact outputStep_mixedLeft c (c.subkey 1) (c.subkey 0) x

/-- Settles O36: decryption undoes encryption for every cipher state (`decBlock_encBlock`); the converse is the same law
for the reversed subkeys. -/
theorem decryptInvertsEncrypt : Obligations.DecryptInvertsEncrypt := by
  refine fun c x => ⟨decBlock_encBlock c x, ?_⟩
  rw [decBlock_eq_encBlock_reversed, encBlock_eq_decBlock_reversed, decBlock_encBlock]

/-! ## Issue and completion (42_encdec.md R128 to R130) -/

section Issue

variable {s : State}

/-- A command that needs a key starts under a completed schedule. -/
theorem whenIdle_needKey_accepted (r : Run) (hidle : s.bfe.run = .idle) (he : s.bfe.err = false)
    (hk : s.bfe.keyValid = true) :
    whenIdle (fun b => b.unlessError fun b => b.needKey (·.withRun r)) s =
      .next { s with bfe := { s.bfe with run := r } } := by
  rw [whenIdle_idle hidle, unlessError_noError he, Bfe.needKey, if_pos hk]
  rfl

/-- Without a completed schedule it latches error 2. -/
theorem whenIdle_needKey_refused (r : Run) (hidle : s.bfe.run = .idle) (he : s.bfe.err = false)
    (hk : s.bfe.keyValid = false) :
    whenIdle (fun b => b.unlessError fun b => b.needKey (·.withRun r)) s =
      .next { s with bfe := { s.bfe with err := true, errCode := 2#4 } } := by
  rw [whenIdle_idle hidle, unlessError_noError he, Bfe.needKey, if_neg (by simp [hk])]
  rfl

theorem exec_enc_accepted (hidle : s.bfe.run = .idle) (he : s.bfe.err = false) (hk : s.bfe.keyValid = true) :
    exec .enc s = .next { s with bfe := { s.bfe with run := .enc } } :=
  whenIdle_needKey_accepted .enc hidle he hk

theorem exec_dec_accepted (hidle : s.bfe.run = .idle) (he : s.bfe.err = false) (hk : s.bfe.keyValid = true) :
    exec .dec s = .next { s with bfe := { s.bfe with run := .dec } } :=
  whenIdle_needKey_accepted .dec hidle he hk

end Issue

/-- Settles O39: the two answers of the admission check. -/
theorem encDecNeedKey : Obligations.EncDecNeedKey :=
  fun _ hidle he =>
    ⟨fun hk => ⟨whenIdle_needKey_refused .enc hidle he hk, whenIdle_needKey_refused .dec hidle he hk⟩,
      fun hk => ⟨exec_enc_accepted hidle he hk, exec_dec_accepted hidle he hk⟩⟩

/-- Settles O37: ENC starts (`exec_enc_accepted`), and its completion is `completeEnc` of the data registers at issue,
which leaves `RUN` idle as it was before. -/
theorem encEncryptsInPlace : Obligations.EncEncryptsInPlace := by
  intro s hidle he hk
  refine ⟨_, exec_enc_accepted hidle he hk, rfl, ?_, rfl, rfl⟩
  rw [engineStep_bfe, complete_enc rfl, completeEnc_eq]
  simp only [hidle]

/-- Settles O38: as `encEncryptsInPlace`, with the completion of DEC. -/
theorem decDecryptsInPlace : Obligations.DecDecryptsInPlace := by
  intro s hidle he hk
  refine ⟨_, exec_dec_accepted hidle he hk, rfl, ?_, rfl, rfl⟩
  rw [engineStep_bfe, complete_dec rfl, completeDec_eq]
  simp only [hidle]

/-- In an idle state without an error and with a completed schedule, the command is accepted, and its completion puts the
data registers through `f` and changes nothing else of BFE. -/
def TransformsData (i : Instr) (f : CipherState → Block → Block) : Prop :=
  ∀ s : State, s.bfe.run = .idle → s.bfe.err = false → s.bfe.keyValid = true →
    ∃ t, exec i s = .next t ∧ (engineStep t).bfe = s.bfe.withData (f s.bfe.cipher (s.bfe.dataL, s.bfe.dataR))

theorem enc_transformsData : TransformsData .enc encBlock := fun s hidle he hk =>
  let ⟨t, ht, _, hdone, _⟩ := encEncryptsInPlace s hidle he hk
  ⟨t, ht, hdone⟩

theorem dec_transformsData : TransformsData .dec decBlock := fun s hidle he hk =>
  let ⟨t, ht, _, hdone, _⟩ := decDecryptsInPlace s hidle he hk
  ⟨t, ht, hdone⟩

/-- Two such commands, the second undoing the first, restore BFE: after the first it differs in the data registers alone,
so the second is accepted as well (42_encdec.md R132). -/
theorem TransformsData.restores {i j : Instr} {f g : CipherState → Block → Block} (hi : TransformsData i f)
    (hj : TransformsData j g) (hgf : ∀ c x, g c (f c x) = x) {s : State} (hidle : s.bfe.run = .idle)
    (he : s.bfe.err = false) (hk : s.bfe.keyValid = true) :
    ∃ t u, exec i s = .next t ∧ exec j (engineStep t) = .next u ∧ (engineStep u).bfe = s.bfe := by
  obtain ⟨t, ht, hdone⟩ := hi s hidle he hk
  obtain ⟨u, hu, hback⟩ := hj (engineStep t) (hdone ▸ hidle) (hdone ▸ he) (hdone ▸ hk)
  refine ⟨t, u, ht, hu, ?_⟩
  rw [hback, hdone]
  simp only [Bfe.withData_cipher, Bfe.withData_dataL, Bfe.withData_dataR, Prod.mk.eta, hgf]
  rfl

/-- Settles O40: each of the two commands undoes the other by the inverse law (`decryptInvertsEncrypt`). -/
theorem encThenDecRestoresBlock : Obligations.EncThenDecRestoresBlock := fun _ hidle he hk =>
  ⟨enc_transformsData.restores dec_transformsData (fun c x => (decryptInvertsEncrypt c x).1) hidle he hk,
    dec_transformsData.restores enc_transformsData (fun c x => (decryptInvertsEncrypt c x).2) hidle he hk⟩

end Sys2Proof.Machine

/-!
PROOFS about ZEROIZE (43_control.md): what it does at issue and at completion.
-/

namespace Sys2Proof.Machine

/-- An idle engine starts ZEROIZE without a look at the flags (43_control.md R140). -/
theorem exec_zeroize_accepted {s : State} (hidle : s.bfe.run = .idle) :
    exec .zeroize s = .next { s with bfe := { s.bfe with run := .zeroize } } :=
  (exec_zeroize s).trans (whenIdle_idle hidle)

/-- The completion of ZEROIZE leaves the reset state with `P` and `S` known to be zero (43_control.md R141). -/
theorem wiped_engineStep {s : State} (h : s.bfe.run = .zeroize) : Wiped (engineStep s) :=
  (complete_zeroize h).trans s.bfe.wipe_eq_afterReset

/-- Settles O42: ZEROIZE starts whatever the flags (`exec_zeroize_accepted`), and each register and flag is read off the
reset state that its completion leaves (`wiped_engineStep`). -/
theorem zeroizeClearsEverything : Obligations.ZeroizeClearsEverything := by
  intro s hidle
  refine ⟨_, exec_zeroize_accepted hidle, rfl, ?_⟩
  have hwiped := wiped_engineStep (s := { s with bfe := { s.bfe with run := .zeroize } }) rfl
  rw [hwiped]
  exact ⟨CipherState.subkey_zero, CipherState.entry_zero, afterReset_keyWord CipherState.zero, rfl, rfl, rfl, rfl, rfl, rfl,
    rfl, hwiped, rfl, rfl⟩

end Sys2Proof.Machine

/-!
PROOFS about errors (60_exceptions.md): which effects latch one, which completions clear one, and what the error state
turns away.
-/

namespace Sys2Proof.Machine

/-- Settles O12: whoever's turn it is can move (`step_total`), and no arm of `exec` stops (`exec_total`). -/
theorem stepNeverStops : Obligations.StepNeverStops :=
  ⟨step_total, exec_total⟩

/-! ## Who writes `ERR` and `ERRCODE` (60_exceptions.md R152, R155) -/

section Flags

variable {s t : State} {b b' : Bfe} {i : Instr}

/-- Codes 4..15 are never produced (60_exceptions.md R151). -/
theorem ErrCause.code_cases (c : ErrCause) : c.code = 1#4 ∨ c.code = 2#4 ∨ c.code = 3#4 := by
  cases c <;> decide

/-- A bus transaction leaves the error flags alone or, where there is no error yet, latches one and does nothing else. -/
theorem BusEffect.err_cases (h : BusEffect b b') :
    (b'.err = b.err ∧ b'.errCode = b.errCode) ∨ (b.err = false ∧ ∃ c, b' = b.raise c) := by
  cases h with
  | badLen he _ => exact .inr ⟨he, _, rfl⟩
  | noKey he _ => exact .inr ⟨he, _, rfl⟩
  | illegal he => exact .inr ⟨he, _, rfl⟩
  | _ => exact .inl ⟨rfl, rfl⟩

/-- A completion leaves the error flags alone, unless it is the wipe of ZEROIZE (43_control.md R141). -/
theorem complete_err_cases (b : Bfe) :
    ((complete b).err = b.err ∧ (complete b).errCode = b.errCode) ∨ (b.run = .zeroize ∧ complete b = b.wipe) := by
  cases hrun : b.run with
  | idle => rw [complete_idle hrun]; exact .inl ⟨rfl, rfl⟩
  | init => rw [complete_init hrun]; exact .inl ⟨rfl, rfl⟩
  | enc => rw [complete_enc hrun]; exact .inl ⟨rfl, rfl⟩
  | dec => rw [complete_dec hrun]; exact .inl ⟨rfl, rfl⟩
  | zeroize => exact .inr ⟨rfl, complete_zeroize hrun⟩

/-- No completion latches an error (60_exceptions.md R150). -/
theorem complete_err_false (he : b.err = false) : (complete b).err = false := by
  obtain ⟨hkept, -⟩ | ⟨-, hwipe⟩ := complete_err_cases b
  · exact hkept.trans he
  · rw [hwipe, Bfe.wipe_err]

/-- A read, held or not, leaves BFE as it is (20_memory.md R41). -/
theorem exec_rd_bfe {a : Addr} {d : Word} (h : exec (.rd a d) s = .next t) : t.bfe = s.bfe := by
  rw [exec_rd] at h
  split at h <;> exact Host.Outcome.next.inj h ▸ rfl

/-- `ERR` is written by the issue of INIT, ENC or DEC or by a write to `CMD`, and by no other transaction. -/
theorem exec_err_writer (h : exec i s = .next t) (hne : t.bfe.err ≠ s.bfe.err) :
    i = .init ∨ i = .enc ∨ i = .dec ∨ ∃ v, i = .wr 1#6 v := by
  cases i with
  | rd a d => exact absurd (congrArg Bfe.err (exec_rd_bfe h)) hne
  | wr a v =>
    by_cases ha : a = 1#6
    · exact .inr (.inr (.inr ⟨v, by rw [ha]⟩))
    · obtain ⟨-, -, -, -, -, -, -, hflags⟩ := writeFrame s t a v h
      obtain ⟨-, herr, -⟩ := hflags ha
      exact absurd herr hne
  | init => exact .inl rfl
  | enc => exact .inr (.inl rfl)
  | dec => exact .inr (.inr (.inl rfl))
  | zeroize =>
    obtain ⟨-, -, -, -, -, -, -, -, hflags, -⟩ := commandIssueFrame s t .zeroize (by simp) h
    exact absurd (hflags rfl).1 hne

/-- An instruction that takes `ERR` from 0 to 1 does so on an idle BFE, and latching the error is all it does. -/
theorem exec_raises (h : exec i s = .next t) (he : s.bfe.err = false) (he' : t.bfe.err = true) :
    s.bfe.run = .idle ∧ ∃ c, t.bfe = s.bfe.raise c := by
  obtain rfl | ⟨a, d, -, rfl⟩ | ⟨hidle, b, heff, rfl⟩ := exec_cases h
  · simp [he] at he'
  · simp [he] at he'
  · refine ⟨hidle, ?_⟩
    obtain ⟨hkept, -⟩ | ⟨-, hraise⟩ := heff.err_cases
    · simp [hkept, he] at he'
    · exact hraise

end Flags

/-- Settles O45: no completion, read of `WAIT` or reset latches an error, and a bus transaction that does (`exec_raises`)
issues a command (`exec_err_writer`). -/
theorem onlyCommandIssueRaises : Obligations.OnlyCommandIssueRaises := by
  intro s t h he he'
  obtain ⟨-, -, rfl⟩ | ⟨-, rfl⟩ | ⟨w, q, hq, -, hexec⟩ | ⟨q, -, -, rfl⟩ | ⟨q, -, rfl⟩ := step_cases h
  · simp [he] at he'
  · simp [complete_err_false he] at he'
  · obtain ⟨hidle, c, hraise⟩ := exec_raises (s := s.take) hexec he he'
    have hwriter := exec_err_writer (s := s.take) hexec (by simp [he, he'])
    rw [hraise]
    exact ⟨hidle, hidle, c.code_cases, rfl, w, q, hq, hwriter⟩
  · simp [he] at he'
  · simp at he'

/-- Settles O46: from `ERR = 1` no bus transaction touches the error flags (`BusEffect.err_cases`) and no completion but
ZEROIZE's does (`complete_err_cases`); that one and a reset clear them with `KEY_VALID`. -/
theorem errorStateLeftOnlyByWipe : Obligations.ErrorStateLeftOnlyByWipe := by
  intro s t h he
  obtain heq | ⟨-, heff⟩ | ⟨-, rfl⟩ | ⟨hrst, rfl⟩ := step_moves h
  · rw [heq]
    exact .inl ⟨he, rfl⟩
  · obtain ⟨herr, hcode⟩ | ⟨hno, -⟩ := heff.err_cases
    · exact .inl ⟨herr.trans he, hcode⟩
    · simp [hno] at he
  · rw [engineStep_bfe]
    obtain ⟨herr, hcode⟩ | ⟨hzero, hwipe⟩ := complete_err_cases s.bfe
    · exact .inl ⟨herr.trans he, hcode⟩
    · rw [hwipe]
      exact .inr ⟨rfl, rfl, rfl, rfl, .inl hzero⟩
  · exact .inr ⟨rfl, rfl, rfl, rfl, .inr hrst⟩

/-! ## What the error state turns away (60_exceptions.md R153, R154) -/

/-- In the error state a command under the error check has no effect, whatever its admission would do. -/
theorem whenIdle_unlessError_error {s : State} (f : Bfe → Bfe) (hidle : s.bfe.run = .idle) (he : s.bfe.err = true) :
    whenIdle (fun b => b.unlessError f) s = .next s := by
  rw [whenIdle_idle hidle, Bfe.unlessError, if_pos he, State.withBfe_self]

/-- Settles O44: the three commands under the error check and every other word written to `CMD` have no effect, while
ZEROIZE, the data registers and the reads do not look at `ERR`. -/
theorem errorStateAcceptsOnlyZeroize : Obligations.ErrorStateAcceptsOnlyZeroize := by
  intro s hidle he
  refine ⟨whenIdle_unlessError_error admitInit hidle he, whenIdle_unlessError_error admitEnc hidle he,
    whenIdle_unlessError_error admitDec hidle he, fun v hv => ?_, exec_zeroize_accepted hidle,
    fun v => whenIdle_idle hidle, fun v => whenIdle_idle hidle, fun a d => if_pos (.inl hidle)⟩
  have hno : ¬v = cmdZeroize := hv
  rw [exec_wr_cmd v hidle, dispatch_error he, if_neg hno, State.withBfe_self]

end Sys2Proof.Machine

/-!
PROOFS about the reset pin (70_reset_and_hazards.md R180, R181): what the step is when it is the host's next act.
-/

namespace Sys2Proof.Machine

section ResetPin

variable {s : State} {q : List HostAct}

theorem afterReset_resetStep (s : State) : AfterReset (resetStep s) := ⟨_, rfl⟩

/-- The reset pin is taken when the engine is idle, and under a running command while the free schedule lets the host move
before the completion. -/
theorem step_reset (hq : s.queue = .rst :: q) (hturn : s.bfe.run = .idle ∨ s.polls < Config.busyReads s.epoch) :
    step s = .next (resetStep s) := by
  refine step_rst ?_
  by_cases hidle : s.bfe.run = .idle
  · exact nextAgent_idle hidle hq
  · exact (nextAgent_contested hidle hq rfl).trans (if_pos (hturn.resolve_left hidle))

/-- Once the schedule leaves the host no more moves, the reset pin meets the completion of the running command. -/
theorem step_reset_completion (hq : s.queue = .rst :: q) (hrun : s.bfe.run ≠ .idle)
    (hpolls : ¬s.polls < Config.busyReads s.epoch) : step s = .next (engineStep s) :=
  step_engine ((nextAgent_contested hrun hq rfl).trans (if_neg hpolls))

end ResetPin

/-- Settles O49: the step is the reset pin's (`step_reset`) or the engine's (`step_reset_completion`), after which the pin
is still to come; neither performs a transaction, so what the host has read stays. -/
theorem resetPinEntersResetState : Obligations.ResetPinEntersResetState := by
  intro s q hq
  by_cases hturn : s.bfe.run = .idle ∨ s.polls < Config.busyReads s.epoch
  · refine ⟨resetStep s, step_reset hq hturn, resetStep_reads s, ?_⟩
    rw [if_pos hturn, resetStep_queue, hq]
    exact ⟨afterReset_resetStep s, rfl⟩
  · obtain ⟨hrun, hpolls⟩ := not_or.mp hturn
    refine ⟨engineStep s, step_reset_completion hq hrun hpolls, engineStep_reads s, ?_⟩
    rw [if_neg hturn]
    exact ⟨engineStep_bfe s, hq⟩

end Sys2Proof.Machine
